-- ==== Sys2Proof/Word.lean ====
section
/-! DEFINITION. Words, levels and pad events: the notation of 00_scope.md rules R6 and R8. -/

namespace Sys2Proof

/-- One command word `cmd[31:0]` (30_encoding.md R61). -/
abbrev CmdWord := BitVec 32

/-- A transferred byte, a pin identifier or the result register (`DATA_W = PIN_W = 8`, 00_scope.md R5). -/
abbrev Byte := BitVec 8

/-- A half-cycle in microseconds (`HC_W = 12`, 00_scope.md R5). -/
abbrev HalfCycle := BitVec 12

/-- A line level or an acknowledge level, one bit (00_scope.md R6): `false` is 0, `true` is 1. -/
abbrev Level := Bool

/-- `LOW = 0`; as an acknowledge level, `ACK` (00_scope.md R5, R6). -/
abbrev LOW : Level := false

/-- `HIGH = 1`, the released level; as an acknowledge level, `NACK` (00_scope.md R5, R6). -/
abbrev HIGH : Level := true

/-- `Ack = {ACK=0, NACK=1}` (30_encoding.md R64). -/
abbrev ACK : Level := LOW

/-- The not-acknowledge level (30_encoding.md R64). -/
abbrev NACK : Level := HIGH

/-- The two lines of the bus (20_memory.md R40). -/
inductive Line where
  | sda
  | scl
deriving DecidableEq, Repr

/-- One event of the pad trace (00_scope.md R8). -/
inductive Event where
  /-- `OD`: the configuration pulse, naming both pins as 41_config.md R101 allows. -/
  | od (sda scl : Byte)
  /-- `D(s,c)`: a drive step requesting SDA = `s` and SCL = `c`. -/
  | drive (sda scl : Level)
  /-- `w`: one wait of `half_cycle_us` microseconds. -/
  | wait
  /-- `S=v`: a sample of SDA that returned `v`. -/
  | sampleSda (v : Level)
  /-- `C=v`: a sample of SCL that returned `v`. -/
  | sampleScl (v : Level)
deriving DecidableEq, Repr

/-- The pad trace: the events so far, oldest first (00_scope.md R8). -/
abbrev PadTrace := List Event

end Sys2Proof
end

