-- ==== Sys2Proof/Config.lean ====
section
/-! DEFINITION. What an implementation fixes (00_scope.md R5) and the free values. -/

namespace Sys2Proof

/-- `CLK_PER_US - 1`, where `CLK_PER_US` is the OPEN positive integer of 00_scope.md R5 and 93_implementation_defined.md
U10. It has no body: nothing can be proved of its value (assumption 4). -/
opaque Config.clkPerUsPred : Nat

/-- `CLK_PER_US`, clock cycles per microsecond: a positive integer, otherwise unknown (00_scope.md R5). -/
def Config.clkPerUs : Nat := Config.clkPerUsPred + 1

/-- The environment's answer to a sample that no script fixes: a free bit of the run, the line and the pad trace so
far (20_memory.md R46, 93_implementation_defined.md U6, U7, U9). It has no body (assumption 3). -/
opaque Config.freeEnv : Nat → Line → PadTrace → Level

/-- `DEFAULT_HALF_CYCLE_US = 5`, supplied by the assembler only (00_scope.md R5, 30_encoding.md R73). -/
def Config.defaultHalfCycle : Nat := 5

end Sys2Proof
end

