-- ==== Sys2Proof/Syntax.lean ====
section
/-! DEFINITION. The operations of the engine surface, one constructor per row of spec/opcode_table.json (30_encoding.md R60, R67). -/

namespace Sys2Proof

/-- The ten operations (30_encoding.md R60). `wack` and `wnack` are the two fixed-operand spellings of `wackl`
and share its words (R60, R67); the decoder answers `wackl` for them. -/
inductive Instr where
  /-- `BEGIN sda, scl, hc` (41_config.md R100). -/
  | begin (sda scl : Byte) (hc : HalfCycle)
  /-- `START` (42_conditions.md R110). -/
  | start
  /-- `STOP` (42_conditions.md R113). -/
  | stop
  /-- `WRB data` (43_byte_transfer.md R120). -/
  | wrb (data : Byte)
  /-- `RDB` (43_byte_transfer.md R125). -/
  | rdb
  /-- `WACKL level` (44_ack.md R140). -/
  | wackl (level : Level)
  /-- `WACK` (44_ack.md R141). -/
  | wack
  /-- `WNACK` (44_ack.md R142). -/
  | wnack
  /-- `RACK` (44_ack.md R144). -/
  | rack
  /-- `RDS` (45_stretch.md R150). -/
  | rds
deriving DecidableEq, Repr

/-- The operation a spelling stands for: `WACK` is `WACKL 0` and `WNACK` is `WACKL 1` (30_encoding.md R71). -/
def Instr.core : Instr → Instr
  | .begin sda scl hc => .begin sda scl hc
  | .start => .start
  | .stop => .stop
  | .wrb data => .wrb data
  | .rdb => .rdb
  | .wackl level => .wackl level
  | .wack => .wackl ACK
  | .wnack => .wackl NACK
  | .rack => .rack
  | .rds => .rds

end Sys2Proof
end

