-- ==== Sys2Proof/WellFormed.lean ====
section
/-! DEFINITION. The operand check of the opcode table: BEGIN's `hc ≠ 0` (30_encoding.md R65, R67). The widths of the
other fields are their types, so no other instruction has an ill-formed operand. -/

namespace Sys2Proof

/-- An instruction whose operands the opcode map calls legal (30_encoding.md R67, R68 (e)). The block itself does
not check this (R69, R104); the model's `step` does, and refuses an ill-formed BEGIN (R69, assumption 6). -/
def Instr.wellFormed : Instr → Bool
  | .begin _ _ hc => hc != 0#12
  | .start => true
  | .stop => true
  | .wrb _ => true
  | .rdb => true
  | .wackl _ => true
  | .wack => true
  | .wnack => true
  | .rack => true
  | .rds => true

end Sys2Proof
end

