-- ==== Sys2Proof/Decode.lean ====
section
/-! DEFINITION. The command encoding: fields, decoder, encoder and the opcode map of 30_encoding.md R61 to R69. -/

namespace Sys2Proof

/-! ## Opcodes (30_encoding.md R60) -/

def opBEGIN : BitVec 4 := 0x1#4
def opSTART : BitVec 4 := 0x2#4
def opSTOP : BitVec 4 := 0x3#4
def opWRB : BitVec 4 := 0x4#4
def opRDB : BitVec 4 := 0x5#4
def opWACKL : BitVec 4 := 0x6#4
def opRACK : BitVec 4 := 0x7#4
def opRDS : BitVec 4 := 0x8#4

/-- The opcode of an operation; the three acknowledge spellings share 0x6 (30_encoding.md R60). -/
def Instr.opcode : Instr → BitVec 4
  | .begin _ _ _ => opBEGIN
  | .start => opSTART
  | .stop => opSTOP
  | .wrb _ => opWRB
  | .rdb => opRDB
  | .wackl _ => opWACKL
  | .wack => opWACKL
  | .wnack => opWACKL
  | .rack => opRACK
  | .rds => opRDS

/-! ## Fields (30_encoding.md R62 to R66) -/

/-- `cmd[31:28]` (R61). -/
def fieldOpcode (w : CmdWord) : BitVec 4 := w.extractLsb' 28 4
/-- `cmd[27:20]` of format C (R65). -/
def fieldSda (w : CmdWord) : Byte := w.extractLsb' 20 8
/-- `cmd[19:12]` of format C (R65). -/
def fieldScl (w : CmdWord) : Byte := w.extractLsb' 12 8
/-- `cmd[11:0]` of format C (R65). -/
def fieldHc (w : CmdWord) : HalfCycle := w.extractLsb' 0 12
/-- `cmd[7:0]` of format D (R63). -/
def fieldData (w : CmdWord) : Byte := w.extractLsb' 0 8
/-- `cmd[0]` of format L (R64). -/
def fieldLevel (w : CmdWord) : Level := w.getLsbD 0
/-- `cmd[27:0]`, which must be 0 in format N (R62). -/
def lowBitsN (w : CmdWord) : BitVec 28 := w.extractLsb' 0 28
/-- `cmd[27:8]`, which must be 0 in format D (R63). -/
def lowBitsD (w : CmdWord) : BitVec 20 := w.extractLsb' 8 20
/-- `cmd[27:1]`, which must be 0 in format L (R64). -/
def lowBitsL (w : CmdWord) : BitVec 27 := w.extractLsb' 1 27

/-! ## Decoder (30_encoding.md R67) -/

/-- Why a word is reserved (30_encoding.md R68). -/
inductive DecodeError where
  /-- R68 (a): opcode 0x0 or 0x9 to 0xF. -/
  | reservedOpcode
  /-- R68 (b), (c), (d): a bit that the format requires to be 0 is 1. -/
  | reservedBits
deriving DecidableEq, Repr

/-- A format N word: legal only with `cmd[27:0] = 0` (R62, R67). -/
def decodeN (w : CmdWord) (i : Instr) : Except DecodeError Instr :=
  if lowBitsN w = 0#28 then .ok i else .error .reservedBits

/-- The decoder of R67. Every word gets an operation or the reason it is reserved. BEGIN with `hc = 0` is "a legal
pattern with an illegal operand value" (R68 (e)) and decodes to that BEGIN (95_test_vectors.md V6). The words of WACK
and WNACK decode to WACKL ("A decoder that wants one row per word drops the WACK and WNACK rows and keeps WACKL"). -/
def decode (w : CmdWord) : Except DecodeError Instr :=
  let op := fieldOpcode w
  if op = opBEGIN then .ok (.begin (fieldSda w) (fieldScl w) (fieldHc w))
  else if op = opSTART then decodeN w .start
  else if op = opSTOP then decodeN w .stop
  else if op = opWRB then
    if lowBitsD w = 0#20 then .ok (.wrb (fieldData w)) else .error .reservedBits
  else if op = opRDB then decodeN w .rdb
  else if op = opWACKL then
    if lowBitsL w = 0#27 then .ok (.wackl (fieldLevel w)) else .error .reservedBits
  else if op = opRACK then decodeN w .rack
  else if op = opRDS then decodeN w .rds
  else .error .reservedOpcode

/-! ## Encoder (30_encoding.md R62 to R65, R67) -/

/-- Format N: opcode and 28 zeros (R62). -/
def encodeN (op : BitVec 4) : CmdWord := op ++ 0#28
/-- Format D: opcode, 20 zeros, the data byte (R63). -/
def encodeD (op : BitVec 4) (data : Byte) : CmdWord := op ++ 0#20 ++ data
/-- Format L: opcode, 27 zeros, the level (R64). -/
def encodeL (op : BitVec 4) (level : Level) : CmdWord := op ++ 0#27 ++ BitVec.ofBool level
/-- Format C: opcode, two pin identifiers, the half-cycle (R65). -/
def encodeC (op : BitVec 4) (sda scl : Byte) (hc : HalfCycle) : CmdWord := op ++ sda ++ scl ++ hc

/-- The command word of an operation (R62 to R65). -/
def encode : Instr → CmdWord
  | .begin sda scl hc => encodeC opBEGIN sda scl hc
  | .start => encodeN opSTART
  | .stop => encodeN opSTOP
  | .wrb data => encodeD opWRB data
  | .rdb => encodeN opRDB
  | .wackl level => encodeL opWACKL level
  | .wack => encodeL opWACKL ACK
  | .wnack => encodeL opWACKL NACK
  | .rack => encodeN opRACK
  | .rds => encodeN opRDS

/-! ## The opcode map as a table (30_encoding.md R67) -/

/-- One row of the opcode map: a word matches when `(cmd AND mask) = pattern`. -/
structure OpcodeRow where
  mnemonic : String
  pattern  : CmdWord
  mask     : CmdWord
deriving DecidableEq, Repr

/-- R67's table, in its order. -/
def opcodeMap : List OpcodeRow :=
  [ ⟨"BEGIN", 0x10000000#32, 0xF0000000#32⟩,
    ⟨"START", 0x20000000#32, 0xFFFFFFFF#32⟩,
    ⟨"STOP", 0x30000000#32, 0xFFFFFFFF#32⟩,
    ⟨"WRB", 0x40000000#32, 0xFFFFFF00#32⟩,
    ⟨"RDB", 0x50000000#32, 0xFFFFFFFF#32⟩,
    ⟨"WACKL", 0x60000000#32, 0xFFFFFFFE#32⟩,
    ⟨"WACK", 0x60000000#32, 0xFFFFFFFF#32⟩,
    ⟨"WNACK", 0x60000001#32, 0xFFFFFFFF#32⟩,
    ⟨"RACK", 0x70000000#32, 0xFFFFFFFF#32⟩,
    ⟨"RDS", 0x80000000#32, 0xFFFFFFFF#32⟩ ]

/-- A word matches a row (R67). -/
def OpcodeRow.matches (r : OpcodeRow) (w : CmdWord) : Bool := (w &&& r.mask) == r.pattern

/-- Two rows have a word in common: their patterns agree wherever both masks look. -/
def OpcodeRow.overlaps (r r' : OpcodeRow) : Bool :=
  (r.pattern &&& r.mask &&& r'.mask) == (r'.pattern &&& r.mask &&& r'.mask)

/-- The command word whose bits are `w`, numbered as the opcode table numbers them, of which the table gives the low
`nbits`; the block has one word length and the word is one parallel word, so no byte order enters (R61, 20_memory.md
R48). -/
def tableWord (nbits w : Nat) : CmdWord := BitVec.ofNat 32 (w % 2 ^ nbits)

/-- What the decoder reads from a word numbered as the opcode table numbers it (`none`: reserved, or longer than
the one command length). -/
def decodeTableWord (nbits w : Nat) : Option Instr :=
  if nbits ≤ 32 then (decode (tableWord nbits w)).toOption else none

end Sys2Proof
end

