-- ==== Sys2Proof/Machine/State.lean ====
section
/-! DEFINITION. The machine's state, its value after reset, and the two types of reasons to stop. -/

namespace Sys2Proof.Machine

/-- Step labels of the step tables (10_state.md R23), in the tables' own spelling. `fin` is the model's label for
"the last row and its wait are over", the position of the completion edge of 40_sequencer.md R86 (assumption 12). -/
inductive StepLabel where
  | B0 | B1
  | S1 | S2 | S3
  | P1 | P2 | P3
  | W0 | Wa | Wb | Wc
  | R0 | R1 | Ra | Rs | Rb
  | K0 | K1 | K2 | K3 | K4
  | A0 | A1 | A2 | As | A3
  | T1 | Ts
  | fin
deriving DecidableEq, Repr

/-- The registers of 10_state.md R10, the registers its rules imply, and the model's own record of pad events, host
words and environment answers. -/
structure State where
  /-- `sda_pin` (R11). -/
  sdaPin : Byte
  /-- `scl_pin` (R12). -/
  sclPin : Byte
  /-- `half_cycle_us` (R13). -/
  halfCycleUs : HalfCycle
  /-- `last_sda`, the level requested on SDA (R14). -/
  lastSda : Level
  /-- `last_scl`, the level requested on SCL (R15). -/
  lastScl : Level
  /-- `stretch_pending`, the only flag (R19). -/
  stretchPending : Bool
  /-- `res`, the return value of the last completed operation (R18). -/
  res : Byte
  /-- `busy` (R21). -/
  busy : Bool
  /-- `op`, the opcode latched at acceptance (R22). -/
  op : BitVec 4
  /-- `step`, the position in the step table (R23). -/
  step : StepLabel
  /-- `bit`, the bit index inside WRB and RDB (R23). -/
  bit : BitVec 3
  /-- `shreg`, the byte being sent or accumulated (R24). -/
  shreg : Byte
  /-- `lvl`, WACKL's latched level (R25). -/
  lvl : Level
  /-- `skip`, RDB's copy of `stretch_pending` (R26). -/
  skip : Bool
  /-- `dly`, microseconds left in the wait (R27). -/
  dly : HalfCycle
  /-- `presc`, clock cycles left in the microsecond (R27). -/
  presc : Nat
  /-- The level RACK or RDS sampled, held until it completes: `a` of 44_ack.md R144, `c` of 45_stretch.md R150
  (assumption 10). -/
  smp : Level
  /-- Output `rsp_valid` (R30, 40_sequencer.md R86; assumption 11). -/
  rspValid : Bool
  /-- Output `od_cfg` (R30, 41_config.md R101; assumption 11). -/
  odCfg : Bool
  /-- Pins and half-cycle have been written: a BEGIN has been accepted since reset. "The model's state has a "configured"
  predicate" (93_implementation_defined.md U3, 70_reset_and_hazards.md R185; assumption 5). -/
  configured : Bool
  /-- MODEL'S OWN: the pad trace so far, oldest first (00_scope.md R8; assumption 16). -/
  trace : PadTrace
  /-- MODEL'S OWN: the words the host has still to issue (93_implementation_defined.md U12; assumption 13). -/
  cmds : List CmdWord
  /-- MODEL'S OWN: the environment's next answers, where they are written down (20_memory.md R46; assumption 3). -/
  envScript : List Level
  /-- MODEL'S OWN: how many times a reset has been applied (93_implementation_defined.md U7; assumption 14). -/
  runNo : Nat
deriving DecidableEq, Repr

/-- Faults: none. "The block raises no exception" (60_exceptions.md R160); "fault is never the treatment here"
(93_implementation_defined.md). So no step can end in a fault. -/
inductive Fault where
deriving DecidableEq, Repr

/-- Refusals. -/
inductive Refusal where
  /-- Raised by a refused arm of `exec` only, for an instruction without a meaning yet; safe. No arm uses it. -/
  | notModelled (mnemonic : String)
  /-- Raised by `step` when the host's next word is reserved (30_encoding.md R68, R69: "refuse them"); safe. -/
  | reservedWord (w : CmdWord) (why : DecodeError)
  /-- Raised by `step` when the host's next word is "a legal pattern with an illegal operand value", BEGIN with `hc = 0`
  (30_encoding.md R68 (e), R69: "refuse them"; 93_implementation_defined.md U2); safe. -/
  | illegalOperand (i : Instr)
  /-- Raised by `step` for a command other than BEGIN before the first BEGIN after reset ("a model refuses it",
  70_reset_and_hazards.md R185; 93_implementation_defined.md U3); safe. -/
  | beforeBegin (i : Instr)
deriving DecidableEq, Repr

/-- The state right after reset (70_reset_and_hazards.md R180): lines released, flag clear, `res = 0x00`, not busy, no
wait in progress. The registers R180 calls unspecified hold the values of assumptions 1 and 2; the host has issued
nothing and the environment is free. -/
def State.reset : State where
  sdaPin := 0x00#8
  sclPin := 0x00#8
  halfCycleUs := 0#12
  lastSda := HIGH
  lastScl := HIGH
  stretchPending := false
  res := 0x00#8
  busy := false
  op := 0x0#4
  step := .fin
  bit := 0#3
  shreg := 0x00#8
  lvl := LOW
  skip := false
  dly := 0#12
  presc := 0
  smp := LOW
  rspValid := false
  odCfg := false
  configured := false
  trace := []
  cmds := []
  envScript := []
  runNo := 0

end Sys2Proof.Machine
end

