-- ==== Sys2Proof/Machine/Ops.lean ====
section
/-! DEFINITION. The named operations every instruction is built from: the primitives of 00_scope.md R7, acceptance
(40_sequencer.md R81), completion (R86) and reset (70_reset_and_hazards.md R181). The block takes no exception and
returns from none (60_exceptions.md R160, R167), so no operation for either exists. -/

namespace Sys2Proof.Machine

/-- `drive(sda, scl)`: both request registers on one edge (20_memory.md R43). -/
def State.drive (s : State) (sda scl : Level) : State :=
  { s with lastSda := sda, lastScl := scl, trace := s.trace ++ [.drive sda scl] }

/-- The start of a wait: the delay counter is loaded (60_exceptions.md R170) and `w` is recorded (DESIGN CHOICE,
assumption 18). `clk` is `CLK_PER_US`. -/
def State.startWait (clk : Nat) (s : State) : State :=
  { s with dly := s.halfCycleUs, presc := clk - 1, trace := s.trace ++ [.wait] }

/-- The end of a wait: `dly` is 0 and `presc` has been reloaded (60_exceptions.md R170). -/
def State.elapse (clk : Nat) (s : State) : State := { s with dly := 0#12, presc := clk - 1 }

/-- `wait`: one whole wait of `half_cycle_us` microseconds (00_scope.md R7, 60_exceptions.md R170). -/
def State.wait (s : State) : State := (s.startWait Config.clkPerUs).elapse Config.clkPerUs

/-- The environment's answer on a line: the next scripted answer, else the free one (20_memory.md R46). -/
def State.envAnswer (s : State) (line : Line) : Level :=
  match s.envScript with
  | [] => Config.freeEnv s.runNo line s.trace
  | a :: _ => a

/-- The level of the SDA wire: `last_sda AND env_SDA` (20_memory.md R40, R44). -/
def State.sdaLevel (s : State) : Level := s.lastSda && s.envAnswer .sda

/-- The level of the SCL wire: `last_scl AND env_SCL` (20_memory.md R40, R45). -/
def State.sclLevel (s : State) : Level := s.lastScl && s.envAnswer .scl

/-- The answer just given is used up. -/
def State.answered (s : State) : State := { s with envScript := s.envScript.tail }

/-- `a <- sample_sda()` of RACK: the level goes to `smp` (20_memory.md R44, 44_ack.md R144). -/
def State.sampleSda (s : State) : State :=
  { s.answered with trace := s.trace ++ [.sampleSda s.sdaLevel], smp := s.sdaLevel }

/-- `c <- sample_scl()` of RDS: the level goes to `smp` (20_memory.md R45, 45_stretch.md R150). -/
def State.sampleScl (s : State) : State :=
  { s.answered with trace := s.trace ++ [.sampleScl s.sclLevel], smp := s.sclLevel }

/-- `{shreg[6:0], b}`: one sampled bit shifted in (40_sequencer.md R90 (b)). -/
def shiftIn (shreg : Byte) (b : Level) : Byte := shreg.extractLsb' 0 7 ++ BitVec.ofBool b

/-- `s <- sample_sda(); shreg <- {shreg[6:0], s}` of RDB (43_byte_transfer.md R125, step Rs). -/
def State.shiftSda (s : State) : State :=
  { s.answered with trace := s.trace ++ [.sampleSda s.sdaLevel], shreg := shiftIn s.shreg s.sdaLevel }

/-- `cfg_od()`: the configuration pulse, which shows both pin identifiers (41_config.md R101). -/
def State.cfgOd (s : State) : State :=
  { s with odCfg := true, trace := s.trace ++ [.od s.sdaPin s.sclPin] }

/-- The bit index of the per-bit group's current round (40_sequencer.md R85). -/
def State.atBit (s : State) (b : BitVec 3) : State := { s with bit := b }

/-- What every acceptance does: `busy <- 1`, `op` latched, the position at the table's first step; the pulses of an
earlier cycle have ended (40_sequencer.md R81, R86). -/
def State.accept (s : State) (op : BitVec 4) (first : StepLabel) : State :=
  { s with busy := true, op := op, step := first, rspValid := false, odCfg := false }

/-- `complete(v)`: `res <- v`, `busy <- 0`, `rsp_valid` in the next cycle (40_sequencer.md R86). -/
def State.complete (s : State) (v : Byte) : State :=
  { s with res := v, busy := false, rspValid := true, odCfg := false, step := .fin }

/-- A command is accepted only while `busy = 0`; while `busy = 1` the word "is not accepted … and has no effect"
(40_sequencer.md R82). -/
def State.whenReady (s : State) (run : State → State) : Host.Outcome State Fault Refusal :=
  if s.busy then .next s else .next (run s)

/-- One cycle between operations: no register changes but the completion pulse ends (40_sequencer.md R80, R86). -/
def State.idle (s : State) : State := { s with rspValid := false, odCfg := false }

/-- `rst_n = 0`, "regardless of `clk`": every register takes its reset value and a new run starts, with the same host and
an environment not bound by the old one (70_reset_and_hazards.md R181, R183, R184; assumption 14). -/
def State.applyReset (s : State) : State :=
  { State.reset with cmds := s.cmds, envScript := s.envScript, runNo := s.runNo + 1 }

/-- "for bit = 7 down to 0" (40_sequencer.md R85). -/
def bitOrder : List (BitVec 3) := [7#3, 6#3, 5#3, 4#3, 3#3, 2#3, 1#3, 0#3]

end Sys2Proof.Machine
end

