-- ==== Sys2Proof/Machine/Flags.lean ====
section
/-! DEFINITION. The block's one flag, `stretch_pending`: every way an instruction changes it (10_state.md R19,
40_sequencer.md R83). There are no condition codes. -/

namespace Sys2Proof.Machine

/-- `stretch_pending <- 0`, at the acceptance of BEGIN, START, STOP, WRB, WACKL and RACK (40_sequencer.md R83). -/
def State.clearFlag (s : State) : State := { s with stretchPending := false }

/-- `skip <- stretch_pending; stretch_pending <- 0`, at the acceptance of RDB, `skip` taking the old value (R83). -/
def State.consumeFlag (s : State) : State := { s with skip := s.stretchPending, stretchPending := false }

/-- `stretch_pending <- 1`, at RDS's sample step, whatever the level (45_stretch.md R150). -/
def State.setFlag (s : State) : State := { s with stretchPending := true }

end Sys2Proof.Machine
end

