-- ==== Sys2Proof/Machine/Operands.lean ====
section
/-! DEFINITION. Operands: what each format latches at acceptance (30_encoding.md R66, 40_sequencer.md R81, R83, R85), and
the small functions that read them (40_sequencer.md R90). -/

namespace Sys2Proof.Machine

/-- `zext_8(l)` (00_scope.md R6, 40_sequencer.md R90 (e)). -/
def zext8 (l : Level) : Byte := BitVec.setWidth 8 (BitVec.ofBool l)

/-- `shreg[bit]` (40_sequencer.md R90 (a)). -/
def dataBit (shreg : Byte) (bit : BitVec 3) : Level := shreg.getLsbD bit.toNat

/-- Acceptance of an operation without operands that clears the flag: START, STOP, RACK (R83). -/
def State.acceptPlain (s : State) (op : BitVec 4) (first : StepLabel) : State := (s.accept op first).clearFlag

/-- Acceptance of BEGIN: the three configuration registers are written (41_config.md R100), so the block is configured
(93_implementation_defined.md U3). -/
def State.acceptBegin (s : State) (sda scl : Byte) (hc : HalfCycle) : State :=
  { s.acceptPlain opBEGIN .B0 with sdaPin := sda, sclPin := scl, halfCycleUs := hc, configured := true }

/-- Acceptance of WRB: `shreg <- cmd[7:0]; bit <- 7` (43_byte_transfer.md R120). -/
def State.acceptWrb (s : State) (data : Byte) : State :=
  { s.acceptPlain opWRB .W0 with shreg := data, bit := 7#3 }

/-- Acceptance of RDB: the flag moves to `skip`, `shreg <- 0x00`, `bit <- 7`; the first step is R0, or Ra when the
leading steps are skipped (43_byte_transfer.md R125, R128). -/
def State.acceptRdb (s : State) : State :=
  { (s.accept opRDB (if s.stretchPending then .Ra else .R0)).consumeFlag with shreg := 0x00#8, bit := 7#3 }

/-- Acceptance of WACKL: `lvl <- cmd[0]` (44_ack.md R140). -/
def State.acceptWackl (s : State) (level : Level) : State := { s.acceptPlain opWACKL .K0 with lvl := level }

/-- Acceptance of RDS: `stretch_pending` is not changed (40_sequencer.md R83). -/
def State.acceptRds (s : State) : State := s.accept opRDS .T1

/-- The acceptance of any operation (40_sequencer.md R81, R83). -/
def State.acceptInstr (s : State) : Instr → State
  | .begin sda scl hc => s.acceptBegin sda scl hc
  | .start => s.acceptPlain opSTART .S1
  | .stop => s.acceptPlain opSTOP .P1
  | .wrb data => s.acceptWrb data
  | .rdb => s.acceptRdb
  | .wackl level => s.acceptWackl level
  | .wack => s.acceptWackl ACK
  | .wnack => s.acceptWackl NACK
  | .rack => s.acceptPlain opRACK .A0
  | .rds => s.acceptRds

/-! ## Commands a model refuses (70_reset_and_hazards.md R185, 30_encoding.md R69) -/

/-- The command may come before the first BEGIN after reset: only BEGIN may (70_reset_and_hazards.md R185). -/
def mayComeFirst : Instr → Bool
  | .begin _ _ _ => true
  | .start => false
  | .stop => false
  | .wrb _ => false
  | .rdb => false
  | .wackl _ => false
  | .wack => false
  | .wnack => false
  | .rack => false
  | .rds => false

/-- Why the model refuses a command that decodes, if it does: BEGIN with `hc = 0` (30_encoding.md R69,
93_implementation_defined.md U2), and any other command before the first BEGIN (70_reset_and_hazards.md R185, U3). The
block itself checks neither; `exec` and the clock-level machine run both (assumptions 5 and 6). -/
def State.refuses (s : State) (i : Instr) : Option Refusal :=
  if i.wellFormed then
    if s.configured || mayComeFirst i then none else some (.beforeBegin i)
  else some (.illegalOperand i)

end Sys2Proof.Machine
end

