-- ==== Sys2Proof/Machine/Sequencer.lean ====
section
/-! DEFINITION. The step tables as data (41_config.md to 45_stretch.md) and the sequencer's position (40_sequencer.md R84,
R85, R87). The meanings follow the rules' pseudocode; these follow their tables. R91: "the two agree". -/

namespace Sys2Proof.Machine

/-- The level a drive row requests of one line. -/
inductive Source where
  /-- A fixed level. -/
  | lit (l : Level)
  /-- `last_sda` or `last_scl`: the level the line already has. -/
  | last
  /-- `shreg[bit]` (WRB). -/
  | dataBit
  /-- `lvl` (WACKL). -/
  | ackLevel
deriving DecidableEq, Repr

/-- The action of a row (40_sequencer.md R84). -/
inductive Action where
  /-- `cfg_od()`. -/
  | cfgOd
  /-- `drive(sda, scl)`. -/
  | drive (sda scl : Source)
  /-- `s <- sample_sda(); shreg <- {shreg[6:0], s}` (row Rs). -/
  | shiftSda
  /-- `a <- sample_sda()` (row As). -/
  | sampleSda
  /-- `c <- sample_scl(); stretch_pending <- 1` (row Ts). -/
  | probeScl
deriving DecidableEq, Repr

/-- A row's wait flag; WRB's row Wc waits for bit 0 only. -/
inductive WaitFlag where
  | no
  | yes
  | bitZero
deriving DecidableEq, Repr

/-- A row of a step table (40_sequencer.md R84). -/
structure Row where
  label  : StepLabel
  action : Action
  wait   : WaitFlag
deriving DecidableEq, Repr

/-- A step table: the rows done once, then the rows marked "per bit", done 8 times (40_sequencer.md R85). -/
structure StepTable where
  lead   : List Row
  perBit : List Row
deriving DecidableEq, Repr

/-- 41_config.md R100. -/
def tableBegin : StepTable :=
  { lead := [⟨.B0, .cfgOd, .no⟩, ⟨.B1, .drive (.lit HIGH) (.lit HIGH), .yes⟩], perBit := [] }

/-- 42_conditions.md R110. -/
def tableStart : StepTable :=
  { lead := [⟨.S1, .drive (.lit HIGH) .last, .yes⟩, ⟨.S2, .drive (.lit HIGH) (.lit HIGH), .yes⟩,
      ⟨.S3, .drive (.lit LOW) (.lit HIGH), .yes⟩],
    perBit := [] }

/-- 42_conditions.md R113. -/
def tableStop : StepTable :=
  { lead := [⟨.P1, .drive (.lit LOW) .last, .yes⟩, ⟨.P2, .drive (.lit LOW) (.lit HIGH), .yes⟩,
      ⟨.P3, .drive (.lit HIGH) (.lit HIGH), .yes⟩],
    perBit := [] }

/-- 43_byte_transfer.md R120. -/
def tableWrb : StepTable :=
  { lead := [⟨.W0, .drive .last (.lit LOW), .no⟩],
    perBit := [⟨.Wa, .drive .dataBit (.lit LOW), .yes⟩, ⟨.Wb, .drive .dataBit (.lit HIGH), .yes⟩,
      ⟨.Wc, .drive .dataBit (.lit LOW), .bitZero⟩] }

/-- 43_byte_transfer.md R125. With `skip = 1` the position starts at Ra instead of R0. -/
def tableRdb : StepTable :=
  { lead := [⟨.R0, .drive .last (.lit LOW), .no⟩, ⟨.R1, .drive (.lit HIGH) (.lit LOW), .yes⟩],
    perBit := [⟨.Ra, .drive (.lit HIGH) (.lit HIGH), .yes⟩, ⟨.Rs, .shiftSda, .no⟩,
      ⟨.Rb, .drive (.lit HIGH) (.lit LOW), .yes⟩] }

/-- 44_ack.md R140. -/
def tableWackl : StepTable :=
  { lead := [⟨.K0, .drive .last (.lit LOW), .no⟩, ⟨.K1, .drive .ackLevel (.lit LOW), .yes⟩,
      ⟨.K2, .drive .ackLevel (.lit HIGH), .yes⟩, ⟨.K3, .drive .ackLevel (.lit LOW), .no⟩,
      ⟨.K4, .drive (.lit HIGH) (.lit LOW), .yes⟩],
    perBit := [] }

/-- 44_ack.md R144. -/
def tableRack : StepTable :=
  { lead := [⟨.A0, .drive .last (.lit LOW), .no⟩, ⟨.A1, .drive (.lit HIGH) (.lit LOW), .yes⟩,
      ⟨.A2, .drive (.lit HIGH) (.lit HIGH), .yes⟩, ⟨.As, .sampleSda, .no⟩,
      ⟨.A3, .drive (.lit HIGH) (.lit LOW), .yes⟩],
    perBit := [] }

/-- 45_stretch.md R150. -/
def tableRds : StepTable :=
  { lead := [⟨.T1, .drive .last (.lit HIGH), .yes⟩, ⟨.Ts, .probeScl, .no⟩], perBit := [] }

/-- The step table of an opcode; no table belongs to an opcode that no operation has (30_encoding.md R68). -/
def tableOf (op : BitVec 4) : StepTable :=
  if op = opBEGIN then tableBegin
  else if op = opSTART then tableStart
  else if op = opSTOP then tableStop
  else if op = opWRB then tableWrb
  else if op = opRDB then tableRdb
  else if op = opWACKL then tableWackl
  else if op = opRACK then tableRack
  else if op = opRDS then tableRds
  else { lead := [], perBit := [] }

/-- All rows of a table, each once. -/
def StepTable.rows (t : StepTable) : List Row := t.lead ++ t.perBit

/-- The row at the position; none at `fin`. -/
def State.currentRow (s : State) : Option Row :=
  (tableOf s.op).rows.find? fun r => r.label == s.step

/-- The label of the row after a label, `fin` after the last. -/
def labelAfter : List Row → StepLabel → StepLabel
  | r :: r' :: rest, l => if r.label = l then r'.label else labelAfter (r' :: rest) l
  | _, _ => .fin

/-- The label is the last of the per-bit group. -/
def StepTable.endsGroup (t : StepTable) (l : StepLabel) : Bool :=
  t.perBit.getLast?.any fun r => r.label == l

/-- The label of the group's first row. -/
def StepTable.groupStart (t : StepTable) : StepLabel := (t.perBit.head?.map Row.label).getD .fin

/-- The position moves to the next row; after the group's last row it returns to the group's first row with
`bit <- bit - 1` until bit 0 is done (40_sequencer.md R84, R85). -/
def State.advance (s : State) : State :=
  let t := tableOf s.op
  if t.endsGroup s.step && s.bit != 0#3 then { s with bit := s.bit - 1#3, step := t.groupStart }
  else { s with step := labelAfter t.rows s.step }

/-- The level a source stands for at the moment of the step (40_sequencer.md R84). -/
def State.level (s : State) (standing : Level) : Source → Level
  | .lit l => l
  | .last => standing
  | .dataBit => Sys2Proof.Machine.dataBit s.shreg s.bit
  | .ackLevel => s.lvl

/-- The action of a row (40_sequencer.md R84). -/
def State.perform (s : State) : Action → State
  | .cfgOd => s.cfgOd
  | .drive sda scl => s.drive (s.level s.lastSda sda) (s.level s.lastScl scl)
  | .shiftSda => s.shiftSda
  | .sampleSda => s.sampleSda
  | .probeScl => s.sampleScl.setFlag

/-- The row is followed by a wait (40_sequencer.md R84). -/
def WaitFlag.holds (f : WaitFlag) (bit : BitVec 3) : Bool :=
  match f with
  | .no => false
  | .yes => true
  | .bitZero => bit == 0#3

/-! ## The placement of waits (40_sequencer.md R87) -/

/-- The SCL level a row's drive step requests when SCL stands at `c`; `none` for a row that is no drive step. No table
has a data bit or an acknowledge level on SCL. -/
def Row.requestsScl (r : Row) (c : Level) : Option Level :=
  match r.action with
  | .drive _ (.lit l) => some l
  | .drive _ .last => some c
  | .drive _ .dataBit => none
  | .drive _ .ackLevel => none
  | .cfgOd => none
  | .shiftSda => none
  | .sampleSda => none
  | .probeScl => none

/-- The rows of a table as they run, each with its bit index (R85). -/
def StepTable.unrolled (t : StepTable) : List (Row × BitVec 3) :=
  t.lead.map (·, 7#3) ++ bitOrder.flatMap fun b => t.perBit.map (·, b)

/-- "The wait flag of a drive step is 1 unless the step requests SCL = LOW and the next row of the same operation is a
drive step that also requests SCL = LOW; then it is 0. Sample and configuration steps have wait flag 0." (R87) -/
def Row.flagByRule (r : Row) (next : Option Row) (c : Level) : Bool :=
  match r.requestsScl c with
  | none => false
  | some l => l || !(next.any fun n => n.requestsScl l == some LOW)

/-- The return value `v` of 40_sequencer.md R86. -/
def State.result (s : State) : Byte :=
  if s.op = opRDB then s.shreg
  else if s.op = opRACK then zext8 s.smp
  else if s.op = opRDS then zext8 s.smp
  else 0x00#8

end Sys2Proof.Machine
end

