-- ==== Sys2Proof/Machine/Clock.lean ====
section
/-! DEFINITION. The clock-level machine: one rising edge of `clk` (40_sequencer.md R80 to R86, 60_exceptions.md R166, R170,
70_reset_and_hazards.md R180 to R183). The argument `clk` of these functions is `CLK_PER_US`. -/

namespace Sys2Proof.Machine

/-- The block's inputs at one edge (10_state.md R30). `sda_i` and `scl_i` are not here: they are looked at only at
sample steps, where the environment answers (20_memory.md R42, R46). -/
structure Inputs where
  rstN     : Bool
  cmdValid : Bool
  cmd      : CmdWord
deriving DecidableEq, Repr

/-- One edge of a wait: `presc` counts cycles, `dly` microseconds; the wait is over at the edge where `dly` becomes 0
(60_exceptions.md R170), and the position then moves on (10_state.md R23). -/
def State.countEdge (clk : Nat) (s : State) : State :=
  if s.presc = 0 then
    let s := { s with presc := clk - 1, dly := s.dly - 1#12 }
    if s.dly = 0#12 then s.advance else s
  else { s with presc := s.presc - 1 }

/-- One edge that does a row: its action, then its wait is started, or, when it has none or a wait of length zero, the
position moves on (40_sequencer.md R84, 92_eei_decisions.md D22). -/
def State.rowEdge (clk : Nat) (s : State) (r : Row) : State :=
  let s := s.perform r.action
  if r.wait.holds s.bit then
    let s := s.startWait clk
    if s.dly = 0#12 then s.advance else s
  else s.advance

/-- One edge with `busy = 1`: a wait goes on, or the current row is done, or the operation completes (40_sequencer.md
R84, R86). -/
def State.busyEdge (clk : Nat) (s : State) : State :=
  let s := s.idle
  if s.dly = 0#12 then
    match s.currentRow with
    | some r => s.rowEdge clk r
    | none => s.complete s.result
  else s.countEdge clk

/-- `n` edges with `busy = 1`. -/
def State.busyEdges (clk : Nat) : Nat → State → State
  | 0, s => s
  | n + 1, s => State.busyEdges clk n (s.busyEdge clk)

/-- The accepting edge (40_sequencer.md R81). At clock level a reserved word is consumed and changes nothing, as
30_encoding.md R69 says of "this hardware" (assumption 8). -/
def State.acceptEdge (s : State) (w : CmdWord) : State :=
  match decode w with
  | .ok i => s.idle.acceptInstr i
  | .error _ => s.idle

/-- One rising edge of `clk`. Reset wins over everything (60_exceptions.md R166 (a)); while `busy = 1` the command port is
not looked at (R166 (b)); a command may be accepted in the completion cycle (R166 (c)). -/
def State.edgeAt (clk : Nat) (inp : Inputs) (s : State) : State :=
  if inp.rstN then
    if s.busy then s.busyEdge clk
    else if inp.cmdValid then s.acceptEdge inp.cmd
    else s.idle
  else s.applyReset

/-- One rising edge with the platform's own `CLK_PER_US`. -/
def State.edge (inp : Inputs) (s : State) : State := s.edgeAt Config.clkPerUs inp

/-- What reaches the block from outside. -/
inductive Stimulus where
  /-- `rst_n` is 0 at some time, with no clock edge needed: its fall, or any later moment of the same LOW phase
  (70_reset_and_hazards.md R181). -/
  | resetLow
  /-- A rising edge of `clk` with these inputs. -/
  | edge (inp : Inputs)
deriving DecidableEq, Repr

/-- The block's reaction. While `rst_n` is 0 the registers, and with them the outputs and the pads, hold their reset
values from the fall of `rst_n` on, "regardless of `clk`"; the block leaves reset at the first rising edge with
`rst_n = 1` (R181). -/
def State.stimulus (s : State) : Stimulus → State
  | .resetLow => s.applyReset
  | .edge inp => s.edge inp

/-- What the host drives: while it has a word it presents it and holds it (70_reset_and_hazards.md R187). -/
def State.hostInputs (s : State) : Inputs :=
  match s.cmds with
  | [] => { rstN := true, cmdValid := false, cmd := 0#32 }
  | w :: _ => { rstN := true, cmdValid := true, cmd := w }

/-- The host drops a word once it is accepted, that is, at an edge with `cmd_ready = 1` (70_reset_and_hazards.md
R187). -/
def State.hostTakes (s : State) : State := if s.busy then s else { s with cmds := s.cmds.tail }

/-- One edge of block and host together. -/
def State.systemEdge (s : State) : State := s.hostTakes.edge s.hostInputs

/-- `n` edges of block and host together. -/
def State.systemEdges : Nat → State → State
  | 0, s => s
  | n + 1, s => s.systemEdge.systemEdges n

end Sys2Proof.Machine

namespace Sys2Proof

/-- Drive steps of an operation, the column `d` of 70_reset_and_hazards.md R200. -/
def Instr.driveSteps (i : Instr) (skip : Bool) : Nat :=
  match i with
  | .begin _ _ _ => 1
  | .start => 3
  | .stop => 3
  | .wrb _ => 25
  | .rdb => if skip then 16 else 18
  | .wackl _ => 5
  | .wack => 5
  | .wnack => 5
  | .rack => 4
  | .rds => 1

/-- Sample and configuration steps, the column `s` of 70_reset_and_hazards.md R200. -/
def Instr.otherSteps : Instr → Nat
  | .begin _ _ _ => 1
  | .start => 0
  | .stop => 0
  | .wrb _ => 0
  | .rdb => 8
  | .wackl _ => 0
  | .wack => 0
  | .wnack => 0
  | .rack => 1
  | .rds => 1

/-- Waits of an operation, the exact column of 70_reset_and_hazards.md R200. -/
def Instr.waits (i : Instr) (skip : Bool) : Nat :=
  match i with
  | .begin _ _ _ => 1
  | .start => 3
  | .stop => 3
  | .wrb _ => 17
  | .rdb => if skip then 16 else 17
  | .wackl _ => 3
  | .wack => 3
  | .wnack => 3
  | .rack => 3
  | .rds => 1

/-- Samples an operation takes, hence answers it consumes (40_sequencer.md R91). -/
def Instr.samples : Instr → Nat
  | .begin _ _ _ => 0
  | .start => 0
  | .stop => 0
  | .wrb _ => 0
  | .rdb => 8
  | .wackl _ => 0
  | .wack => 0
  | .wnack => 0
  | .rack => 1
  | .rds => 1

end Sys2Proof

namespace Sys2Proof.Machine

/-- Length in microseconds of the waits of an operation issued in `s`: BEGIN's wait already uses its own `hc`
(41_config.md R105). -/
def State.waitLength (s : State) (i : Instr) : Nat :=
  match i with
  | .begin _ _ hc => hc.toNat
  | _ => s.halfCycleUs.toNat

/-- Clock cycles "from accepting edge to end of `rsp_valid`": `waits × H + d + s + 2`, with
`H = half_cycle_us × CLK_PER_US` (70_reset_and_hazards.md R200). -/
def State.cycles (s : State) (clk : Nat) (i : Instr) : Nat :=
  i.waits s.stretchPending * (s.waitLength i * clk) + i.driveSteps s.stretchPending + i.otherSteps + 2

end Sys2Proof.Machine
end

