-- ==== Sys2Proof/Machine/ByteTransfer.lean ====
section
/-! DEFINITION. Byte transfer WRB and RDB (43_byte_transfer.md R120 to R131). -/

namespace Sys2Proof.Machine

/-- The leading step of WRB, RDB, WACKL and RACK: `drive(last_sda, 0)`, no wait (40_sequencer.md R88). -/
def leadingStep (s : State) : State := s.drive s.lastSda LOW

/-- One round of WRB's per-bit group: Wa, Wb, Wc, the last with a wait only for bit 0 (R120). -/
def wrbBit (s : State) (b : BitVec 3) : State :=
  let s := s.atBit b
  let d := dataBit s.shreg b
  let s := (s.drive d LOW).wait
  let s := (s.drive d HIGH).wait
  let s := s.drive d LOW
  if b = 0#3 then s.wait else s

/-- The steps of WRB: W0, then the group for bit 7 down to 0 (R120). -/
def wrbSteps (s : State) : State := bitOrder.foldl wrbBit (leadingStep s)

/-- `WRB data` (R120). -/
def execWrb (data : Byte) (s : State) : Host.Outcome State Fault Refusal :=
  s.whenReady fun s => (wrbSteps (s.acceptWrb data)).complete 0x00#8

/-- RDB's steps R0 and R1, done only when `skip = 0` (R125, R128). -/
def rdbLead (s : State) : State :=
  if s.skip then s else ((leadingStep s).drive HIGH LOW).wait

/-- One round of RDB's per-bit group: Ra, Rs, Rb (R125). -/
def rdbBit (s : State) (b : BitVec 3) : State :=
  let s := ((s.atBit b).drive HIGH HIGH).wait
  let s := s.shiftSda
  (s.drive HIGH LOW).wait

/-- The steps of RDB (R125). -/
def rdbSteps (s : State) : State := bitOrder.foldl rdbBit (rdbLead s)

/-- `RDB` (R125): it completes with the accumulated byte. -/
def execRdb (s : State) : Host.Outcome State Fault Refusal :=
  s.whenReady fun s =>
    let s := rdbSteps s.acceptRdb
    s.complete s.shreg

end Sys2Proof.Machine
end

