-- ==== Sys2Proof/Machine/Acknowledge.lean ====
section
/-! DEFINITION. The acknowledge bit: WACKL, WACK, WNACK and RACK (44_ack.md R140 to R146). -/

namespace Sys2Proof.Machine

/-- Steps K0 to K4 of WACKL, with the latched level (R140). -/
def wacklSteps (s : State) : State :=
  let s := leadingStep s
  let s := (s.drive s.lvl LOW).wait
  let s := (s.drive s.lvl HIGH).wait
  let s := s.drive s.lvl LOW
  (s.drive HIGH LOW).wait

/-- `WACKL level` (R140). -/
def execWackl (level : Level) (s : State) : Host.Outcome State Fault Refusal :=
  s.whenReady fun s => (wacklSteps (s.acceptWackl level)).complete 0x00#8

/-- `WACK`: "It is `WACKL 0`" (R141). -/
def execWack (s : State) : Host.Outcome State Fault Refusal :=
  s.whenReady fun s => (wacklSteps (s.acceptWackl ACK)).complete 0x00#8

/-- `WNACK`: "It is `WACKL 1`" (R142). -/
def execWnack (s : State) : Host.Outcome State Fault Refusal :=
  s.whenReady fun s => (wacklSteps (s.acceptWackl NACK)).complete 0x00#8

/-- Steps A0, A1, A2, As, A3 of RACK (R144). -/
def rackSteps (s : State) : State :=
  let s := leadingStep s
  let s := (s.drive HIGH LOW).wait
  let s := (s.drive HIGH HIGH).wait
  let s := s.sampleSda
  (s.drive HIGH LOW).wait

/-- `RACK` (R144): it completes with the sampled level, 0 = ACK, 1 = NACK. -/
def execRack (s : State) : Host.Outcome State Fault Refusal :=
  s.whenReady fun s =>
    let s := rackSteps (s.acceptPlain opRACK .A0)
    s.complete (zext8 s.smp)

end Sys2Proof.Machine
end

