-- ==== Sys2Proof/Machine/Conditions.lean ====
section
/-! DEFINITION. The bus conditions START and STOP (42_conditions.md R110 to R115). -/

namespace Sys2Proof.Machine

/-- Steps S1 to S3 of START (R110). -/
def startSteps (s : State) : State :=
  let s := (s.drive HIGH s.lastScl).wait
  let s := (s.drive HIGH HIGH).wait
  (s.drive LOW HIGH).wait

/-- `START` (R110). -/
def execStart (s : State) : Host.Outcome State Fault Refusal :=
  s.whenReady fun s => (startSteps (s.acceptPlain opSTART .S1)).complete 0x00#8

/-- Steps P1 to P3 of STOP (R113). -/
def stopSteps (s : State) : State :=
  let s := (s.drive LOW s.lastScl).wait
  let s := (s.drive LOW HIGH).wait
  (s.drive HIGH HIGH).wait

/-- `STOP` (R113). -/
def execStop (s : State) : Host.Outcome State Fault Refusal :=
  s.whenReady fun s => (stopSteps (s.acceptPlain opSTOP .P1)).complete 0x00#8

end Sys2Proof.Machine
end

