-- ==== Sys2Proof/Machine/Configuration.lean ====
section
/-! DEFINITION. BEGIN (41_config.md R100 to R105). -/

namespace Sys2Proof.Machine

/-- The steps of BEGIN after acceptance: B0 `cfg_od()`, B1 `drive(1, 1); wait` (R100). -/
def beginSteps (s : State) : State :=
  (s.cfgOd.drive HIGH HIGH).wait

/-- `BEGIN sda, scl, hc` (R100). The block checks no operand: with `hc = 0` it "is executed as a BEGIN that stores
0" (30_encoding.md R69; `step` refuses that word, assumption 6) and with `sda = scl` it stores both (R104 (d);
assumption 7). -/
def execBegin (sda scl : Byte) (hc : HalfCycle) (s : State) : Host.Outcome State Fault Refusal :=
  s.whenReady fun s => (beginSteps (s.acceptBegin sda scl hc)).complete 0x00#8

end Sys2Proof.Machine
end

