-- ==== Sys2Proof/Machine/Stretch.lean ====
section
/-! DEFINITION. The clock-stretch probe RDS (45_stretch.md R150 to R155). -/

namespace Sys2Proof.Machine

/-- Steps T1 and Ts of RDS (R150). -/
def rdsSteps (s : State) : State :=
  let s := (s.drive s.lastSda HIGH).wait
  s.sampleScl.setFlag

/-- `RDS` (R150): it completes with the sampled SCL level. -/
def execRds (s : State) : Host.Outcome State Fault Refusal :=
  s.whenReady fun s =>
    let s := rdsSteps s.acceptRds
    s.complete (zext8 s.smp)

end Sys2Proof.Machine
end

