-- ==== Sys2Proof/Machine/Dispatch.lean ====
section
/-! DEFINITION. One arm per instruction: the operation as one transition (40_sequencer.md R91). -/

namespace Sys2Proof.Machine

def exec (i : Instr) (s : State) : Host.Outcome State Fault Refusal :=
  match i with
  | .begin sda scl hc => Sys2Proof.Machine.execBegin sda scl hc s
  | .start => Sys2Proof.Machine.execStart s
  | .stop => Sys2Proof.Machine.execStop s
  | .wrb data => Sys2Proof.Machine.execWrb data s
  | .rdb => Sys2Proof.Machine.execRdb s
  | .wackl level => Sys2Proof.Machine.execWackl level s
  | .wack => Sys2Proof.Machine.execWack s
  | .wnack => Sys2Proof.Machine.execWnack s
  | .rack => Sys2Proof.Machine.execRack s
  | .rds => Sys2Proof.Machine.execRds s

end Sys2Proof.Machine
end

