-- ==== Sys2Proof/Machine/Step.lean ====
section
/-! DEFINITION. One step of the machine: the host's next command, run whole (40_sequencer.md R91; assumptions 9 and 13). -/

namespace Sys2Proof.Machine

/-- One step. With `busy = 0` it takes the host's next word and runs that operation whole, or refuses the word: a reserved
one, BEGIN with `hc = 0` among them (30_encoding.md R69), or a command before the first BEGIN (70_reset_and_hazards.md
R185). With no word it is one cycle between operations (40_sequencer.md R80). With `busy = 1` no command is accepted and it
is one clock edge of the operation in progress (R82). -/
def step (s : State) : Host.Outcome State Fault Refusal :=
  if s.busy then .next (s.busyEdge Config.clkPerUs)
  else
    match s.cmds with
    | [] => .next s.idle
    | w :: rest =>
      match decode w with
      | .ok i =>
        match s.refuses i with
        | none => exec i { s with cmds := rest }
        | some r => .refused r
      | .error why => .refused (.reservedWord w why)

/-- `s` with one more command word that the host issues first, and the block ready for it: not busy, and past the BEGIN
that the host owes before any other command (70_reset_and_hazards.md R185; assumption 13). -/
def State.withFetchWord (s : State) (nbits w : Nat) : State :=
  { s with busy := false, configured := true, cmds := tableWord nbits w :: s.cmds }

end Sys2Proof.Machine
end

