-- ==== Sys2Proof/Machine/Assembler.lean ====
section
/-! DEFINITION. The assembler's side of 30_encoding.md: the two spellings of a command (R70), the pseudo-instructions (R71),
and the rejection of operands that do not fit (R66). -/

namespace Sys2Proof.Machine

/-- A command as written, operands still plain numbers; `begin` may leave out the half-cycle (R71 (a)). -/
inductive AsmCmd where
  | begin (sda scl : Nat) (hc : Option Nat)
  | start
  | stop
  | wrb (data : Nat)
  | rdb
  | wackl (level : Nat)
  | wack
  | wnack
  | rack
  | rds
deriving DecidableEq, Repr

/-- A number as a field of `w` bits; a value that does not fit is rejected (R66). -/
def fitField (w n : Nat) : Option (BitVec w) := if n < 2 ^ w then some (BitVec.ofNat w n) else none

/-- The core operation a written command denotes (R66, R71): the default half-cycle is supplied here, WACK and WNACK
become WACKL. `BEGIN sda, scl, 0` is encoded: its operand fits the field, and R66's list of what an assembler must reject
does not name the value R65 excludes (DESIGN CHOICE, assumption 17). -/
def AsmCmd.assemble : AsmCmd → Option Instr
  | .begin sda scl hc => do
    let a ← fitField 8 sda
    let c ← fitField 8 scl
    let h ← fitField 12 (hc.getD Config.defaultHalfCycle)
    pure (.begin a c h)
  | .start => some .start
  | .stop => some .stop
  | .wrb data => (fitField 8 data).map .wrb
  | .rdb => some .rdb
  | .wackl level => (fitField 1 level).map fun l => .wackl (l.getLsbD 0)
  | .wack => some (.wackl ACK)
  | .wnack => some (.wackl NACK)
  | .rack => some .rack
  | .rds => some .rds

/-- The command word of a written command. -/
def AsmCmd.word (c : AsmCmd) : Option CmdWord := c.assemble.map encode

/-! ## Text (R70); what R70 leaves open of it is a DESIGN CHOICE (assumption 17) -/

/-- A token: a run of letters, digits and underscores, or one other character. -/
inductive Token where
  | word (cs : List Char)
  | punct (c : Char)
deriving DecidableEq, Repr

/-- Letters, digits and the underscore make up names and numbers. -/
def isWordChar (c : Char) : Bool := c.isAlphanum || c == '_'

/-- The token gathered so far, if any (`acc` is reversed). -/
def flushWord (acc : List Char) : List Token := if acc.isEmpty then [] else [.word acc.reverse]

/-- Characters to tokens; spaces only separate. -/
def lexChars : List Char → List Char → List Token
  | [], acc => flushWord acc
  | c :: cs, acc =>
    if isWordChar c then lexChars cs (c :: acc)
    else if c = ' ' then flushWord acc ++ lexChars cs []
    else flushWord acc ++ .punct c :: lexChars cs []

/-- A digit in base 10 or 16, either case. -/
def digitOf (c : Char) : Option Nat :=
  if '0' ≤ c ∧ c ≤ '9' then some (c.toNat - '0'.toNat)
  else if 'a' ≤ c ∧ c ≤ 'f' then some (c.toNat - 'a'.toNat + 10)
  else if 'A' ≤ c ∧ c ≤ 'F' then some (c.toNat - 'A'.toNat + 10)
  else none

/-- Digits, most significant first, onto an accumulator. -/
def digitsOf (base : Nat) : List Char → Nat → Option Nat
  | [], n => some n
  | c :: cs, n =>
    match digitOf c with
    | some d => if d < base then digitsOf base cs (n * base + d) else none
    | none => none

/-- "numbers decimal or `0x` hexadecimal" (R70). -/
def numberOf : List Char → Option Nat
  | [] => none
  | '0' :: 'x' :: c :: cs => digitsOf 16 (c :: cs) 0
  | c :: cs => digitsOf 10 (c :: cs) 0

/-- "levels as `0`/`1` or `LOW`/`HIGH` or `ACK`/`NACK`" (R70). A number other than 0 and 1 is left to the field
check. -/
def levelOf (cs : List Char) : Option Nat :=
  if cs = "LOW".toList then some 0
  else if cs = "HIGH".toList then some 1
  else if cs = "ACK".toList then some 0
  else if cs = "NACK".toList then some 1
  else numberOf cs

/-- This spec's spelling without a result name: the mnemonic in capitals, operands separated by commas (R70, R71). -/
def parseMnemonic : List Token → Option AsmCmd
  | [.word m] =>
    if m = "START".toList then some .start
    else if m = "STOP".toList then some .stop
    else if m = "RDB".toList then some .rdb
    else if m = "WACK".toList then some .wack
    else if m = "WNACK".toList then some .wnack
    else if m = "RACK".toList then some .rack
    else if m = "RDS".toList then some .rds
    else none
  | [.word m, .word a] =>
    if m = "WRB".toList then (numberOf a).map .wrb
    else if m = "WACKL".toList then (levelOf a).map .wackl
    else none
  | [.word m, .word a, .punct ',', .word b] =>
    if m = "BEGIN".toList then do pure (.begin (← numberOf a) (← numberOf b) none) else none
  | [.word m, .word a, .punct ',', .word b, .punct ',', .word c] =>
    if m = "BEGIN".toList then do pure (.begin (← numberOf a) (← numberOf b) (some (← numberOf c))) else none
  | _ => none

/-- The document's spelling without a result name: a call (R70, R60). Operands are numerals (or the level names); a
symbolic one, as in R70's quoted scenario `begin(sda, scl, 5)`, is rejected (DESIGN CHOICE, assumption 17). -/
def parseCall : List Token → Option AsmCmd
  | [.word f, .punct '(', .punct ')'] =>
    if f = "start".toList then some .start
    else if f = "stop".toList then some .stop
    else if f = "readByte".toList then some .rdb
    else if f = "writeAck".toList then some .wack
    else if f = "writeNack".toList then some .wnack
    else if f = "readAck".toList then some .rack
    else if f = "readStretching".toList then some .rds
    else none
  | [.word f, .punct '(', .word a, .punct ')'] =>
    if f = "writeByte".toList then (numberOf a).map .wrb
    else if f = "writeAck".toList then (levelOf a).map .wackl
    else none
  | [.word f, .punct '(', .word a, .punct ',', .word b, .punct ')'] =>
    if f = "begin".toList then do pure (.begin (← numberOf a) (← numberOf b) none) else none
  | [.word f, .punct '(', .word a, .punct ',', .word b, .punct ',', .word c, .punct ')'] =>
    if f = "begin".toList then do pure (.begin (← numberOf a) (← numberOf b) (some (← numberOf c))) else none
  | _ => none

/-- "a returning operation": RDB, RACK, RDS (00_scope.md glossary). -/
def AsmCmd.returns : AsmCmd → Bool
  | .rdb => true
  | .rack => true
  | .rds => true
  | .begin _ _ _ => false
  | .start => false
  | .stop => false
  | .wrb _ => false
  | .wackl _ => false
  | .wack => false
  | .wnack => false

/-- Keep a command only if it returns something, for a spelling that names the result. -/
def onlyReturning (c : Option AsmCmd) : Option AsmCmd := c.bind fun c => if c.returns then some c else none

/-- One command in either spelling, with or without the name of its result: `RACK -> ack`, `ack = readAck()` (R70). -/
def parseCmd (ts : List Token) : Option AsmCmd :=
  match ts with
  | [.word m, .punct '-', .punct '>', .word _] => onlyReturning (parseMnemonic [.word m])
  | .word _ :: .punct '=' :: rest => onlyReturning (parseCall rest)
  | _ => (parseMnemonic ts).orElse fun _ => parseCall ts

/-- Characters to the lines or calls of a program: a newline or a semicolon ends each (R70). `cur` is reversed. -/
def splitCmds : List Char → List Char → List (List Char)
  | [], cur => [cur.reverse]
  | c :: cs, cur =>
    if c = ';' ∨ c = '\n' then cur.reverse :: splitCmds cs [] else splitCmds cs (c :: cur)

/-- The command words of a program's text; empty lines count for nothing, and one bad command rejects the text. -/
def assembleText (text : String) : Option (List CmdWord) :=
  let cmds := ((splitCmds text.toList []).map fun cs => lexChars cs []).filter fun ts => !ts.isEmpty
  cmds.mapM fun ts => (parseCmd ts).bind AsmCmd.word

end Sys2Proof.Machine
end

