-- ==== Sys2Proof/Machine/Wire.lean ====
section
/-! DEFINITION. What a pad trace amounts to on the lines: wire traces, bus conditions and clock pulses of the requests
(00_scope.md R8, 20_memory.md R47). -/

namespace Sys2Proof.Machine

/-- The two requests `(last_sda, last_scl)`. -/
abbrev Lines := Level × Level

/-- The requests of a state. -/
def State.lines (s : State) : Lines := (s.lastSda, s.lastScl)

/-- The requests after a pad trace that starts from `cur`. -/
def linesAfter (cur : Lines) : PadTrace → Lines
  | [] => cur
  | .drive s c :: rest => linesAfter (s, c) rest
  | .od _ _ :: rest => linesAfter cur rest
  | .wait :: rest => linesAfter cur rest
  | .sampleSda _ :: rest => linesAfter cur rest
  | .sampleScl _ :: rest => linesAfter cur rest

/-- The wire trace: the pad trace without waits and without drive steps that repeat the standing levels (R8). -/
def wireTrace (cur : Lines) : PadTrace → PadTrace
  | [] => []
  | .drive s c :: rest =>
    if (s, c) = cur then wireTrace cur rest else .drive s c :: wireTrace (s, c) rest
  | .wait :: rest => wireTrace cur rest
  | .od a b :: rest => .od a b :: wireTrace cur rest
  | .sampleSda v :: rest => .sampleSda v :: wireTrace cur rest
  | .sampleScl v :: rest => .sampleScl v :: wireTrace cur rest

/-- The two bus conditions (R8). -/
inductive Condition where
  | start
  | stop
deriving DecidableEq, Repr

/-- The condition one drive step makes: SDA changes while the SCL request is 1 before and after (R8). -/
def conditionOf (before after : Lines) : Option Condition :=
  if before.2 && after.2 then
    if before.1 && !after.1 then some .start
    else if !before.1 && after.1 then some .stop
    else none
  else none

/-- The start and stop conditions of a pad trace, in order (R8). -/
def conditions (cur : Lines) : PadTrace → List Condition
  | [] => []
  | .drive s c :: rest => (conditionOf cur (s, c)).toList ++ conditions (s, c) rest
  | .od _ _ :: rest => conditions cur rest
  | .wait :: rest => conditions cur rest
  | .sampleSda _ :: rest => conditions cur rest
  | .sampleScl _ :: rest => conditions cur rest

/-- The SDA request at each rising SCL request: the clock pulses that begin, in order (20_memory.md R48). -/
def clockRises (cur : Lines) : PadTrace → List Level
  | [] => []
  | .drive s c :: rest => if !cur.2 && c then s :: clockRises (s, c) rest else clockRises (s, c) rest
  | .od _ _ :: rest => clockRises cur rest
  | .wait :: rest => clockRises cur rest
  | .sampleSda _ :: rest => clockRises cur rest
  | .sampleScl _ :: rest => clockRises cur rest

/-- The phases of the SCL request with the number of waits in each, in order (40_sequencer.md R87). `cur` is the level
and `n` the waits of the phase so far. -/
def sclPhases (cur : Level) (n : Nat) : PadTrace → List (Level × Nat)
  | [] => [(cur, n)]
  | .drive _ c :: rest => if c = cur then sclPhases cur n rest else (cur, n) :: sclPhases c 0 rest
  | .wait :: rest => sclPhases cur (n + 1) rest
  | .od _ _ :: rest => sclPhases cur n rest
  | .sampleSda _ :: rest => sclPhases cur n rest
  | .sampleScl _ :: rest => sclPhases cur n rest

/-- Every drive step changes at most one of the two requests (20_memory.md R47). -/
def oneLinePerStep (cur : Lines) : PadTrace → Bool
  | [] => true
  | .drive s c :: rest => (s == cur.1 || c == cur.2) && oneLinePerStep (s, c) rest
  | .od _ _ :: rest => oneLinePerStep cur rest
  | .wait :: rest => oneLinePerStep cur rest
  | .sampleSda _ :: rest => oneLinePerStep cur rest
  | .sampleScl _ :: rest => oneLinePerStep cur rest

end Sys2Proof.Machine

namespace Sys2Proof

/-- The events of a trace that are drive steps. -/
def Event.isDrive : Event → Bool
  | .drive _ _ => true
  | .od _ _ => false
  | .wait => false
  | .sampleSda _ => false
  | .sampleScl _ => false

/-- The events of a trace that are waits. -/
def Event.isWait : Event → Bool
  | .wait => true
  | .od _ _ => false
  | .drive _ _ => false
  | .sampleSda _ => false
  | .sampleScl _ => false

/-- The events of a trace that are samples. -/
def Event.isSample : Event → Bool
  | .sampleSda _ => true
  | .sampleScl _ => true
  | .od _ _ => false
  | .drive _ _ => false
  | .wait => false

/-- An event with the level a sample returned left out: what the block does, not what it sees. -/
def Event.shape : Event → Event
  | .sampleSda _ => .sampleSda LOW
  | .sampleScl _ => .sampleScl LOW
  | .od a b => .od a b
  | .drive s c => .drive s c
  | .wait => .wait

end Sys2Proof

namespace Sys2Proof.Machine

/-- The events that `t`'s trace has beyond `s`'s. -/
def newEvents (s t : State) : PadTrace := t.trace.drop s.trace.length

end Sys2Proof.Machine
end

