-- ==== Sys2Proof/Machine/Traces.lean ====
section
/-! DEFINITION. The "Pad trace" lines of the operations' rules, written out from the rules' text and not from the
meanings (41_config.md to 45_stretch.md, 95_test_vectors.md); the statements compare the meanings with them. -/

namespace Sys2Proof.Machine

/-- `OD D(1,1) w` (41_config.md R100). -/
def traceBegin (sda scl : Byte) : PadTrace := [.od sda scl, .drive HIGH HIGH, .wait]

/-- `D(1,c) w D(1,1) w D(0,1) w` (42_conditions.md R110). -/
def traceStart (l : Lines) : PadTrace :=
  [.drive HIGH l.2, .wait, .drive HIGH HIGH, .wait, .drive LOW HIGH, .wait]

/-- `D(0,c) w D(0,1) w D(1,1) w` (42_conditions.md R113). -/
def traceStop (l : Lines) : PadTrace :=
  [.drive LOW l.2, .wait, .drive LOW HIGH, .wait, .drive HIGH HIGH, .wait]

/-- The bits of a byte, most significant first (20_memory.md R48). -/
def dataBits (d : Byte) : List Level :=
  [d.getLsbD 7, d.getLsbD 6, d.getLsbD 5, d.getLsbD 4, d.getLsbD 3, d.getLsbD 2, d.getLsbD 1, d.getLsbD 0]

/-- The group of one written bit: `D(b,0) w D(b,1) w D(b,0)` (43_byte_transfer.md R120). -/
def traceWrittenBit (b : Level) : PadTrace := [.drive b LOW, .wait, .drive b HIGH, .wait, .drive b LOW]

/-- `D(sda,0)`, eight groups, `w` (43_byte_transfer.md R120). -/
def traceWrb (l : Lines) (d : Byte) : PadTrace :=
  [.drive l.1 LOW] ++ (dataBits d).flatMap traceWrittenBit ++ [.wait]

/-- The group of one read bit: `D(1,1) w S=v D(1,0) w` (43_byte_transfer.md R125). -/
def traceReadBit (v : Level) : PadTrace := [.drive HIGH HIGH, .wait, .sampleSda v, .drive HIGH LOW, .wait]

/-- `D(sda,0) D(1,0) w` unless skipped, then one group per sampled level (43_byte_transfer.md R125, R128). -/
def traceRdb (l : Lines) (skip : Bool) (vs : List Level) : PadTrace :=
  (if skip then [] else [.drive l.1 LOW, .drive HIGH LOW, .wait]) ++ vs.flatMap traceReadBit

/-- "`result = (result << 1) | sampledBit`", from 0, over the samples in order (43_byte_transfer.md R125). -/
def byteOf (vs : List Level) : Byte := vs.foldl (fun r v => (r <<< 1) ||| (if v then 1#8 else 0#8)) 0x00#8

/-- `D(sda,0) D(l,0) w D(l,1) w D(l,0) D(1,0) w` (44_ack.md R140). -/
def traceWackl (l : Lines) (level : Level) : PadTrace :=
  [.drive l.1 LOW, .drive level LOW, .wait, .drive level HIGH, .wait, .drive level LOW, .drive HIGH LOW, .wait]

/-- `D(sda,0) D(1,0) w D(1,1) w S=v D(1,0) w` (44_ack.md R144). -/
def traceRack (l : Lines) (v : Level) : PadTrace :=
  [.drive l.1 LOW, .drive HIGH LOW, .wait, .drive HIGH HIGH, .wait, .sampleSda v, .drive HIGH LOW, .wait]

/-- `D(sda,1) w C=v` (45_stretch.md R150). -/
def traceRds (l : Lines) (v : Level) : PadTrace := [.drive l.1 HIGH, .wait, .sampleScl v]

/-- The levels that the samples of a trace returned, in order. -/
def sampledLevels : PadTrace → List Level
  | [] => []
  | .sampleSda v :: rest => v :: sampledLevels rest
  | .sampleScl v :: rest => v :: sampledLevels rest
  | .od _ _ :: rest => sampledLevels rest
  | .drive _ _ :: rest => sampledLevels rest
  | .wait :: rest => sampledLevels rest

end Sys2Proof.Machine
end

