-- ==== Sys2Proof/Machine/Ports.lean ====
section
/-! DEFINITION. The block's outputs as functions of its state (10_state.md R30) and the open-drain pad driver (R17,
60_exceptions.md R172). -/

namespace Sys2Proof.Machine

/-- What a pad does to its line: pull it LOW or leave it. There is no third case: "it has no means to drive HIGH"
(60_exceptions.md R172). -/
inductive Pad where
  | pullLow
  | highZ
deriving DecidableEq, Repr

/-- The outputs of the block (10_state.md R30). -/
structure Outputs where
  cmdReady   : Bool
  rspValid   : Bool
  rspData    : Byte
  sdaPullLow : Bool
  sclPullLow : Bool
  odCfg      : Bool
  sdaPinO    : Byte
  sclPinO    : Byte
deriving DecidableEq, Repr

/-- 10_state.md R30: `cmd_ready = NOT busy`, `x_pull_low = NOT last_x`, `rsp_data = res`. -/
def State.outputs (s : State) : Outputs where
  cmdReady := !s.busy
  rspValid := s.rspValid
  rspData := s.res
  sdaPullLow := !s.lastSda
  sclPullLow := !s.lastScl
  odCfg := s.odCfg
  sdaPinO := s.sdaPin
  sclPinO := s.sclPin

/-- The pad of a line whose control is `pull` (60_exceptions.md R172). -/
def padOf (pull : Bool) : Pad := if pull then .pullLow else .highZ

/-- The line as every agent on it makes it: LOW if the pad pulls or the rest of the bus does (20_memory.md R40). -/
def wireLevel (p : Pad) (env : Level) : Level :=
  match p with
  | .pullLow => LOW
  | .highZ => env

end Sys2Proof.Machine
end

