-- ==== Sys2Proof/Safety.lean ====
section
/-! DEFINITION. What a host owes the block (70_reset_and_hazards.md R185, R188, 93_implementation_defined.md U1 to U4) and what
counts as a safe step, in the terms claims use. -/

namespace Sys2Proof.Machine

/-- The step goes on: no fault, no refusal. -/
def goesOn (o : Host.Outcome State Fault Refusal) : Bool :=
  match o with
  | .next _ => true
  | .fault _ => false
  | .refused _ => false

/-- Once configured, waits have a length: "`half_cycle_us ≥ 1` is an invariant of every state after the first BEGIN"
(93_implementation_defined.md U2). -/
def State.ConfiguredWaits (s : State) : Prop := s.configured = true → s.halfCycleUs ≠ 0#12

/-- The host's contract for one command: BEGIN with `hc ≥ 1` (U2) and two different pins (U4); any other command only
once configured (U3, 70_reset_and_hazards.md R185). `step` refuses what is outside it, but for BEGIN with equal pins
(assumptions 5, 6, 7). -/
def State.inContract (s : State) : Instr → Bool
  | .begin sda scl hc => hc != 0#12 && sda != scl
  | .start => s.configured
  | .stop => s.configured
  | .wrb _ => s.configured
  | .rdb => s.configured
  | .wackl _ => s.configured
  | .wack => s.configured
  | .wnack => s.configured
  | .rack => s.configured
  | .rds => s.configured

/-- Between operations nothing runs: not busy and no wait in progress; and a flag that is set was set by an RDS, the
last accepted command, which left SCL released (10_state.md R20, R27, 43_byte_transfer.md R128). -/
def State.Quiet (s : State) : Prop :=
  s.busy = false ∧ s.dly = 0#12 ∧ (s.stretchPending = true → s.op = opRDS ∧ s.lastScl = HIGH)

/-- Where the host is in the grammar of 70_reset_and_hazards.md R188. -/
inductive Phase where
  /-- Before the BEGIN. -/
  | unconfigured
  /-- After BEGIN or STOP: only START may follow. -/
  | idle
  /-- After a START: an item must follow. -/
  | started
  /-- After WRB: RACK must follow. -/
  | wrote
  /-- After RDB: WACK or WNACK must follow. -/
  | read
  /-- After an RDS that follows an item: RDS or RDB must follow. -/
  | probed
  /-- After an RDS that follows a START at once: RDS or RDB must follow. -/
  | probedLow
  /-- After an item that ends in WACK: the byte read is acknowledged, so it is not the receiver's last. -/
  | acked
  /-- After an item that ends in RACK or WNACK: another item, START or STOP may follow. -/
  | between
deriving DecidableEq, Repr

/-- The formula `BEGIN ( START item+ ( START item+ )* STOP )*` with
`item = WRB RACK | RDB (WACK | WNACK) | RDS+ RDB (WACK | WNACK)` (R188): the phase after a command, if it allows it. -/
def Phase.next (p : Phase) : Instr → Option Phase
  | .begin _ _ _ => if p = .unconfigured then some .idle else none
  | .start => if p = .idle ∨ p = .acked ∨ p = .between then some .started else none
  | .stop => if p = .acked ∨ p = .between then some .idle else none
  | .wrb _ => if p = .started ∨ p = .acked ∨ p = .between then some .wrote else none
  | .rdb =>
    if p = .started ∨ p = .acked ∨ p = .between ∨ p = .probed ∨ p = .probedLow then some .read else none
  | .wackl level => if p = .read then (if level = ACK then some .acked else some .between) else none
  | .wack => if p = .read then some .acked else none
  | .wnack => if p = .read then some .between else none
  | .rack => if p = .wrote then some .between else none
  | .rds =>
    if p = .started ∨ p = .probedLow then some .probedLow
    else if p = .acked ∨ p = .between ∨ p = .probed then some .probed
    else none

/-- The whole of R188: the formula, with "a master-receiver's last byte being answered with WNACK", read as: no START and
no STOP may follow a byte answered with WACK (DESIGN CHOICE, assumption 19). -/
def Phase.allowed (p : Phase) (i : Instr) : Option Phase :=
  if p = .acked ∧ (i = .start ∨ i = .stop) then none else p.next i

/-- A command sequence of R188's grammar, from before its BEGIN to a bus left idle. -/
def grammatical (is : List Instr) : Bool := is.foldlM Phase.allowed .unconfigured == some .idle

/-- The requests and the flag that a phase of the grammar finds. -/
def Phase.fits (p : Phase) (s : State) : Bool :=
  match p with
  | .unconfigured => s.lastSda && s.lastScl && !s.stretchPending
  | .idle => s.lastSda && s.lastScl && !s.stretchPending
  | .started => !s.lastSda && s.lastScl && !s.stretchPending
  | .wrote => !s.lastScl && !s.stretchPending
  | .read => s.lastSda && !s.lastScl && !s.stretchPending
  | .probed => s.lastSda && s.lastScl && s.stretchPending
  | .probedLow => !s.lastSda && s.lastScl && s.stretchPending
  | .acked => s.lastSda && !s.lastScl && !s.stretchPending
  | .between => s.lastSda && !s.lastScl && !s.stretchPending

/-- The bus conditions an operation exists to make: START a start, STOP a stop, the others none. -/
def ownConditions : Instr → List Condition
  | .start => [.start]
  | .stop => [.stop]
  | .begin _ _ _ => []
  | .wrb _ => []
  | .rdb => []
  | .wackl _ => []
  | .wack => []
  | .wnack => []
  | .rack => []
  | .rds => []

end Sys2Proof.Machine
end

