-- ==== Sys2Proof/Certificates/Slice0/Obligations.lean ====
section
/-! DEFINITION. The statements for the provers. Each docstring names the rule of the spec it formalises. -/

open Sys2Proof Sys2Proof.Machine

/-! ## Reset, idle and busy -/

/-- R180: while `rst_n = 0`, whatever the state, with or without a clock edge (R181) and whatever the command port, every
register with a reset value has it, and so have the outputs; `State.reset` has the same values; and it stays so while no
command comes. The registers R180 calls unspecified are not mentioned. -/
def Obligations.ResetGivesTheSpecifiedValues : Prop :=
  ∀ (s : State) (inp : Inputs), inp.rstN = false →
  ∀ t ∈ [s.stimulus .resetLow, (s.stimulus .resetLow).edge inp, s.edge inp, State.reset, State.reset.idle],
    t.lastSda = HIGH ∧ t.lastScl = HIGH ∧ t.stretchPending = false ∧ t.res = 0x00#8 ∧ t.busy = false ∧
    t.dly = 0#12 ∧ t.presc = 0 ∧ t.outputs.cmdReady = true ∧ t.outputs.rspValid = false ∧
    t.outputs.rspData = 0x00#8 ∧ t.outputs.sdaPullLow = false ∧ t.outputs.sclPullLow = false ∧
    t.outputs.odCfg = false

/-- R181, R183, R184: nothing of the block survives a reset, which acts the same with a clock edge in it and without, and
which the first edge with `rst_n = 1` ends: there a command presented is accepted. That the whole state is equal
afterwards, the registers R180 calls unspecified and the model's `smp` among them, and that the host's words, the script
and the run number are no part of the block, is the model's choice (assumptions 1, 2, 14). -/
def Obligations.NothingSurvivesReset : Prop :=
  (∀ (s s' : State) (inp inp' : Inputs), inp.rstN = false → inp'.rstN = false →
    s.cmds = s'.cmds → s.envScript = s'.envScript → s.runNo = s'.runNo →
    s.edge inp = s'.edge inp' ∧ s.stimulus .resetLow = s'.edge inp') ∧
  (∀ (s : State) (w : CmdWord) (i : Instr), decode w = .ok i →
    let t := (s.stimulus .resetLow).edge { rstN := true, cmdValid := true, cmd := w }
    t.busy = true ∧ t.op = i.opcode ∧ t.lines = (HIGH, HIGH) ∧ t.trace = [])

/-- R80: with `busy = 0` and no word from the host, any number of clock edges, and a step, leave every register as it
was; only the completion pulse ends. -/
def Obligations.BetweenCommandsNothingChanges : Prop :=
  ∀ (s : State) (n : Nat), s.busy = false → s.cmds = [] →
    s.systemEdges (n + 1) = { s with rspValid := false, odCfg := false } ∧
    step s = .next { s with rspValid := false, odCfg := false } ∧ s.outputs.cmdReady = true

/-- R82: while `busy = 1` a command has no effect, the command port is not looked at, and the host's words stay. No edge
but a reset ends the operation before its last step and wait are over. -/
def Obligations.BusyBlockTakesNoCommand : Prop :=
  ∀ (s : State), s.busy = true →
    s.outputs.cmdReady = false ∧
    (∀ i : Instr, exec i s = .next s) ∧
    (∀ (v v' : Bool) (w w' : CmdWord),
      s.edge { rstN := true, cmdValid := v, cmd := w } = s.edge { rstN := true, cmdValid := v', cmd := w' }) ∧
    (∃ t, step s = .next t ∧ t.cmds = s.cmds ∧ s.systemEdge = t) ∧
    (∀ inp : Inputs, inp.rstN = true → (s.edge inp).busy = false → s.dly = 0#12 ∧ s.currentRow = none)

/-! ## Encoding -/

/-- Decode and encode agree: the decoder gives back every instruction with every operand, WACK and WNACK as the WACKL
they spell (R62 to R67, R71). -/
def Obligations.DecodeInvertsEncode : Prop := ∀ i : Instr, decode (encode i) = .ok i.core

/-- The other direction: a word that decodes is the encoding of what it decodes to, so no bit of a legal word is
dropped (R66, R67). -/
def Obligations.EncodeInvertsDecode : Prop :=
  ∀ (w : CmdWord) (i : Instr), decode w = .ok i → encode i = w ∧ i.core = i

/-- R68: the decoder refuses exactly the words that match no row of the map, which are kinds (a) to (d); and (e), BEGIN
with `hc = 0`, is the only legal pattern with an illegal operand value. -/
def Obligations.ReservedWordsMatchNoRow : Prop :=
  ∀ w : CmdWord,
    ((∃ e, decode w = .error e) ↔ ∀ r ∈ opcodeMap, r.matches w = false) ∧
    ((∃ e, decode w = .error e) ↔
      ((fieldOpcode w = 0x0#4 ∨ 0x9#4 ≤ fieldOpcode w) ∨
       ((fieldOpcode w = 0x2#4 ∨ fieldOpcode w = 0x3#4 ∨ fieldOpcode w = 0x5#4 ∨ fieldOpcode w = 0x7#4 ∨
          fieldOpcode w = 0x8#4) ∧ w.extractLsb' 0 28 ≠ 0#28) ∨
       (fieldOpcode w = 0x4#4 ∧ w.extractLsb' 8 20 ≠ 0#20) ∨
       (fieldOpcode w = 0x6#4 ∧ w.extractLsb' 1 27 ≠ 0#27))) ∧
    (∀ i, decode w = .ok i → (i.wellFormed = false ↔ fieldOpcode w = 0x1#4 ∧ w.extractLsb' 0 12 = 0#12))

/-- R67: "Rows are disjoint except that WACK and WNACK lie inside WACKL by construction", of the rows of `opcodeMap` by
their mnemonics. -/
def Obligations.OpcodeRowsAreDisjoint : Prop :=
  opcodeMap.map OpcodeRow.mnemonic =
    ["BEGIN", "START", "STOP", "WRB", "RDB", "WACKL", "WACK", "WNACK", "RACK", "RDS"] ∧
  opcodeMap.Pairwise (fun r r' => ∀ w, r.matches w = true → r'.matches w = true →
    r.mnemonic = "WACKL" ∧ (r'.mnemonic = "WACK" ∨ r'.mnemonic = "WNACK")) ∧
  (∀ w, (∃ r ∈ opcodeMap, r.mnemonic = "WACKL" ∧ r.matches w = true) ↔
    ∃ r ∈ opcodeMap, (r.mnemonic = "WACK" ∨ r.mnemonic = "WNACK") ∧ r.matches w = true)

/-- R72: the spec's example words, encoded and decoded, and its reserved examples. BEGIN with `hc = 0` decodes to an
ill-formed BEGIN (95_test_vectors.md V6). -/
def Obligations.ExampleWordsOfTheSpec : Prop :=
  encode (.begin 4#8 5#8 5#12) = 0x10405005#32 ∧ decode 0x10405005#32 = .ok (.begin 4#8 5#8 5#12) ∧
  decode 0x1020E005#32 = .ok (.begin 2#8 14#8 5#12) ∧ (AsmCmd.begin 2 14 none).word = some 0x1020E005#32 ∧
  decode 0x20000000#32 = .ok .start ∧ decode 0x30000000#32 = .ok .stop ∧
  decode 0x400000A0#32 = .ok (.wrb 0xA0#8) ∧ decode 0x50000000#32 = .ok .rdb ∧
  decode 0x60000000#32 = .ok (.wackl ACK) ∧ encode .wack = 0x60000000#32 ∧
  decode 0x60000001#32 = .ok (.wackl NACK) ∧ encode .wnack = 0x60000001#32 ∧
  decode 0x70000000#32 = .ok .rack ∧ decode 0x80000000#32 = .ok .rds ∧
  decode 0x00000000#32 = .error .reservedOpcode ∧ decode 0x20000001#32 = .error .reservedBits ∧
  decode 0x40000100#32 = .error .reservedBits ∧ decode 0x60000002#32 = .error .reservedBits ∧
  decode 0x90000000#32 = .error .reservedOpcode ∧ decode 0xFFFFFFFF#32 = .error .reservedOpcode ∧
  decode 0x10405000#32 = .ok (.begin 4#8 5#8 0#12) ∧ (Instr.begin 4#8 5#8 0#12).wellFormed = false

/-- R71: `BEGIN sda, scl` supplies 5, WACK is WACKL 0, WNACK is WACKL 1. R66: every operand that fits its field is
encoded as it stands, one that does not is rejected. That a half-cycle of 0, which fits its field, is encoded is the
model's choice (assumption 17). -/
def Obligations.PseudoInstructionsExpand : Prop :=
  (∀ sda scl : Nat, (AsmCmd.begin sda scl none).word = (AsmCmd.begin sda scl (some 5)).word) ∧
  AsmCmd.wack.word = (AsmCmd.wackl 0).word ∧ AsmCmd.wnack.word = (AsmCmd.wackl 1).word ∧
  (∀ (sda scl : Byte) (hc : HalfCycle),
    (AsmCmd.begin sda.toNat scl.toNat (some hc.toNat)).word = some (encode (.begin sda scl hc))) ∧
  (∀ data : Byte, (AsmCmd.wrb data.toNat).word = some (encode (.wrb data))) ∧
  (∀ level : Level, (AsmCmd.wackl level.toNat).word = some (encode (.wackl level))) ∧
  AsmCmd.start.word = some (encode .start) ∧ AsmCmd.stop.word = some (encode .stop) ∧
  AsmCmd.rdb.word = some (encode .rdb) ∧ AsmCmd.rack.word = some (encode .rack) ∧
  AsmCmd.rds.word = some (encode .rds) ∧
  (∀ sda scl hc : Nat, 255 < sda ∨ 255 < scl ∨ 4095 < hc → (AsmCmd.begin sda scl (some hc)).word = none) ∧
  (∀ data : Nat, 255 < data → (AsmCmd.wrb data).word = none) ∧
  (∀ level : Nat, 1 < level → (AsmCmd.wackl level).word = none)

/-! ## The step -/

/-- A step runs the decoded instruction: with `busy = 0` and the word of a well-formed instruction first in the host's
list, a BEGIN or any instruction once a BEGIN has been accepted (R185), `step` is `exec` of it with that word taken from
the list (R81, R91; assumption 13). -/
def Obligations.StepRunsTheHostsNextCommand : Prop :=
  (∀ (s : State) (w : CmdWord) (rest : List CmdWord) (i : Instr),
    s.busy = false → s.cmds = w :: rest → decode w = .ok i → i.wellFormed = true →
    s.configured = true ∨ (∃ sda scl hc, i = .begin sda scl hc) → step s = exec i { s with cmds := rest }) ∧
  (∀ (s : State) (w : Nat) (i : Instr), decodeTableWord 32 w = some i → i.wellFormed = true →
    step (s.withFetchWord 32 w) = exec i { s with busy := false, configured := true })

/-- R69. `step` refuses the words of kinds (a) to (e), by name, as R69 has a model do. That beside it the clock-level edge
and `exec` do what R69 says of "this hardware" is the model's choice (assumptions 6 and 8): the edge consumes a word of
kinds (a) to (d) and changes no register, and kind (e) is executed as a BEGIN that stores 0. -/
def Obligations.ReservedWordsAreRefused : Prop :=
  (∀ (s : State) (w : CmdWord) (rest : List CmdWord) (e : DecodeError),
    s.busy = false → s.cmds = w :: rest → decode w = .error e →
      step s = .refused (.reservedWord w e) ∧
      s.systemEdge = { s with rspValid := false, odCfg := false, cmds := rest } ∧
      s.systemEdge.outputs.cmdReady = true) ∧
  (∀ (s : State) (w : CmdWord) (rest : List CmdWord), s.busy = false → s.cmds = w :: rest →
    fieldOpcode w = 0x1#4 → w.extractLsb' 0 12 = 0#12 →
      step s = .refused (.illegalOperand (.begin (w.extractLsb' 20 8) (w.extractLsb' 12 8) 0#12)) ∧
      s.systemEdge.busy = true ∧ s.systemEdge.halfCycleUs = 0#12) ∧
  (∀ (s : State) (sda scl : Byte), s.busy = false →
    ∃ t, exec (.begin sda scl 0#12) s = .next t ∧ t.halfCycleUs = 0#12)

/-- `exec`, which stands for the block, answers a next state for every command in every state (R160, R164), a BEGIN with
`hc = 0` and a command before the first BEGIN included, which is the model's choice (assumptions 5 and 6). `step` refuses
only what the spec has a model refuse: a reserved word and a BEGIN with `hc = 0` (R69), and a command other than BEGIN
before the first BEGIN (R185). -/
def Obligations.NoInstructionStops : Prop :=
  (∀ (i : Instr) (s : State), ∃ t, exec i s = .next t) ∧
  (∀ (i : Instr) (s : State), s.busy = false → ∃ t, exec i s = .next t ∧ t.busy = false ∧ t.rspValid = true) ∧
  (∀ s : State, goesOn (step s) = true ∨ ∃ w rest, s.busy = false ∧ s.cmds = w :: rest ∧
    ((∃ e, decode w = .error e ∧ step s = .refused (.reservedWord w e)) ∨
     (∃ sda scl, decode w = .ok (.begin sda scl 0#12) ∧
      step s = .refused (.illegalOperand (.begin sda scl 0#12))) ∨
     (∃ i, decode w = .ok i ∧ (∀ sda scl hc, i ≠ .begin sda scl hc) ∧ s.configured = false ∧
      step s = .refused (.beforeBegin i))))

/-! ## The result of each operation -/

/-- R100: BEGIN, from acceptance to completion: trace `OD D(1,1) w`, configuration stored, flag cleared, lines idle. The
field `configured` is 93_implementation_defined.md U3's predicate (assumption 5). -/
def Obligations.BeginResult : Prop :=
  ∀ (s : State) (sda scl : Byte) (hc : HalfCycle), s.busy = false →
    encode (.begin sda scl hc) = 0x1#4 ++ sda ++ scl ++ hc ∧
    exec (.begin sda scl hc) s = .next { s with
      sdaPin := sda, sclPin := scl, halfCycleUs := hc, configured := true, stretchPending := false,
      lastSda := HIGH, lastScl := HIGH,
      res := 0x00#8, op := 0x1#4, step := .fin, dly := 0#12, presc := Config.clkPerUs - 1, rspValid := true,
      odCfg := false, trace := s.trace ++ traceBegin sda scl }

/-- R110: START. -/
def Obligations.StartResult : Prop :=
  encode .start = 0x20000000#32 ∧
  ∀ s : State, s.busy = false →
    exec .start s = .next { s with
      stretchPending := false, lastSda := LOW, lastScl := HIGH, res := 0x00#8, op := 0x2#4, step := .fin,
      dly := 0#12, presc := Config.clkPerUs - 1, rspValid := true, odCfg := false,
      trace := s.trace ++ traceStart s.lines }

/-- R113: STOP. -/
def Obligations.StopResult : Prop :=
  encode .stop = 0x30000000#32 ∧
  ∀ s : State, s.busy = false →
    exec .stop s = .next { s with
      stretchPending := false, lastSda := HIGH, lastScl := HIGH, res := 0x00#8, op := 0x3#4, step := .fin,
      dly := 0#12, presc := Config.clkPerUs - 1, rspValid := true, odCfg := false,
      trace := s.trace ++ traceStop s.lines }

/-- R120: WRB, every data byte: 25 drive steps and 17 waits, the lines end at `(data[0], 0)`. -/
def Obligations.WrbResult : Prop :=
  ∀ (s : State) (d : Byte), s.busy = false →
    encode (.wrb d) = 0x40000000#32 ||| d.setWidth 32 ∧
    ((traceWrb s.lines d).countP Event.isDrive = 25 ∧ (traceWrb s.lines d).countP Event.isWait = 17) ∧
    exec (.wrb d) s = .next { s with
      stretchPending := false, lastSda := d.getLsbD 0, lastScl := LOW, res := 0x00#8, op := 0x4#4, step := .fin,
      bit := 0#3, shreg := d, dly := 0#12, presc := Config.clkPerUs - 1, rspValid := true, odCfg := false,
      trace := s.trace ++ traceWrb s.lines d }

/-- R125: RDB in every state: eight samples, the byte they make, leading steps only with the flag clear, lines end at
`(1, 0)`, flag clear. The sampled levels are the environment's: scripted answers in order, as far as there are any. -/
def Obligations.RdbResult : Prop :=
  encode .rdb = 0x50000000#32 ∧
  ∀ s : State, s.busy = false →
    ∃ vs : List Level, vs.length = 8 ∧ (∀ k < 8, ∀ a, s.envScript[k]? = some a → vs[k]? = some a) ∧
      exec .rdb s = .next { s with
        skip := s.stretchPending, stretchPending := false, lastSda := HIGH, lastScl := LOW, res := byteOf vs,
        op := 0x5#4, step := .fin, bit := 0#3, shreg := byteOf vs, dly := 0#12, presc := Config.clkPerUs - 1,
        rspValid := true, odCfg := false, envScript := s.envScript.drop 8,
        trace := s.trace ++ traceRdb s.lines s.stretchPending vs }

/-- R125 with the flag clear, the environment's eight answers given. -/
def Obligations.RdbReadsScriptedByte : Prop :=
  ∀ (s : State) (vs rest : List Level), s.busy = false → s.stretchPending = false → vs.length = 8 →
    s.envScript = vs ++ rest →
    ∃ t, exec .rdb s = .next t ∧ t.res = byteOf vs ∧ t.envScript = rest ∧
      t.trace = s.trace ++ ([.drive s.lastSda LOW, .drive HIGH LOW, .wait] ++ vs.flatMap traceReadBit) ∧
      (newEvents s t).countP Event.isDrive = 18 ∧ (newEvents s t).countP Event.isWait = 17

/-- R128: after RDS the leading steps are skipped: 16 drive steps, 16 waits, and the flag is used up. -/
def Obligations.RdbAfterProbeSkipsLeadingSteps : Prop :=
  ∀ (s : State) (vs rest : List Level), s.busy = false → s.stretchPending = true → vs.length = 8 →
    s.envScript = vs ++ rest →
    ∃ t, exec .rdb s = .next t ∧ t.res = byteOf vs ∧ t.envScript = rest ∧ t.stretchPending = false ∧
      t.trace = s.trace ++ vs.flatMap traceReadBit ∧
      (newEvents s t).countP Event.isDrive = 16 ∧ (newEvents s t).countP Event.isWait = 16

/-- R140: WACKL, either level, from any line state; the lines end at `(1, 0)`. -/
def Obligations.WacklResult : Prop :=
  ∀ (s : State) (l : Level), s.busy = false →
    encode (.wackl l) = 0x60000000#32 ||| (BitVec.ofBool l).setWidth 32 ∧
    exec (.wackl l) s = .next { s with
      stretchPending := false, lastSda := HIGH, lastScl := LOW, res := 0x00#8, op := 0x6#4, step := .fin,
      lvl := l, dly := 0#12, presc := Config.clkPerUs - 1, rspValid := true, odCfg := false,
      trace := s.trace ++ traceWackl s.lines l }

/-- R141, R142: WACK is WACKL 0 and WNACK is WACKL 1, in encoding and in effect, and both complete. -/
def Obligations.AcknowledgeSpellingsAgree : Prop :=
  encode .wack = encode (.wackl ACK) ∧ encode .wnack = encode (.wackl NACK) ∧
  ∀ s : State, s.busy = false →
    (∃ t, exec .wack s = .next t ∧ exec (.wackl ACK) s = .next t ∧ t.busy = false ∧ t.lvl = ACK ∧
      t.trace = s.trace ++ [.drive s.lastSda LOW, .drive LOW LOW, .wait, .drive LOW HIGH, .wait, .drive LOW LOW,
        .drive HIGH LOW, .wait]) ∧
    (∃ t, exec .wnack s = .next t ∧ exec (.wackl NACK) s = .next t ∧ t.busy = false ∧ t.lvl = NACK ∧
      t.trace = s.trace ++ [.drive s.lastSda LOW, .drive HIGH LOW, .wait, .drive HIGH HIGH, .wait, .drive HIGH LOW,
        .drive HIGH LOW, .wait])

/-- R144: RACK in every state: one sample, which is the environment's answer because SDA is released, and the result is
that level zero-extended. -/
def Obligations.RackResult : Prop :=
  encode .rack = 0x70000000#32 ∧
  ∀ s : State, s.busy = false →
    let seen := s.trace ++ [.drive s.lastSda LOW, .drive HIGH LOW, .wait, .drive HIGH HIGH, .wait]
    let a := s.envScript.head?.getD (Config.freeEnv s.runNo .sda seen)
    exec .rack s = .next { s with
      stretchPending := false, lastSda := HIGH, lastScl := LOW, res := (if a then 0x01#8 else 0x00#8),
      op := 0x7#4, step := .fin, smp := a, dly := 0#12, presc := Config.clkPerUs - 1, rspValid := true,
      odCfg := false, envScript := s.envScript.tail, trace := s.trace ++ traceRack s.lines a }

/-- R150: RDS in every state: SDA as it was, SCL requested HIGH, the flag set whatever the level, the result is the
sampled SCL level, which is the environment's answer. -/
def Obligations.RdsResult : Prop :=
  encode .rds = 0x80000000#32 ∧
  ∀ s : State, s.busy = false →
    let seen := s.trace ++ [.drive s.lastSda HIGH, .wait]
    let c := s.envScript.head?.getD (Config.freeEnv s.runNo .scl seen)
    exec .rds s = .next { s with
      stretchPending := true, lastScl := HIGH, res := (if c then 0x01#8 else 0x00#8),
      op := 0x8#4, step := .fin, smp := c, dly := 0#12, presc := Config.clkPerUs - 1, rspValid := true,
      odCfg := false, envScript := s.envScript.tail, trace := s.trace ++ traceRds s.lines c }

/-! ## Frames and rules over all operations -/

/-- R20, R83: after an operation the flag is 1 if and only if that operation was RDS. -/
def Obligations.FlagIsSetByRdsAlone : Prop :=
  ∀ (i : Instr) (s : State), s.busy = false → ∃ t, exec i s = .next t ∧ (t.stretchPending = true ↔ i = .rds)

/-- R105: BEGIN is the only operation that writes `sda_pin`, `scl_pin` or `half_cycle_us` and the only one with a
configuration step. -/
def Obligations.OnlyBeginConfigures : Prop :=
  ∀ (i : Instr) (s : State), s.busy = false → ∃ t, exec i s = .next t ∧
    ((∀ sda scl hc, i ≠ .begin sda scl hc) →
      t.sdaPin = s.sdaPin ∧ t.sclPin = s.sclPin ∧ t.halfCycleUs = s.halfCycleUs ∧
      ∀ e ∈ newEvents s t, ∀ a b, e ≠ Event.od a b) ∧
    (∀ sda scl hc, i = .begin sda scl hc → t.sdaPin = sda ∧ t.sclPin = scl ∧ t.halfCycleUs = hc ∧
      newEvents s t = [.od sda scl, .drive HIGH HIGH, .wait])

/-- The frame of every operation: the registers it does not name stay as they were, and the host's words, the run and
the past of the trace always do (R24, R25, R26, R52, R83, R91). -/
def Obligations.OperationsLeaveOtherStateAlone : Prop :=
  ∀ (i : Instr) (s : State), s.busy = false → ∃ t, exec i s = .next t ∧
    t.cmds = s.cmds ∧ t.runNo = s.runNo ∧ s.trace <+: t.trace ∧ t.op = i.opcode ∧
    ((∀ sda scl hc, i ≠ .begin sda scl hc) → t.configured = s.configured) ∧
    (i ≠ .rdb → t.skip = s.skip) ∧
    ((∀ l, i.core ≠ .wackl l) → t.lvl = s.lvl) ∧
    (i ≠ .rack → i ≠ .rds → t.smp = s.smp) ∧
    (i ≠ .rdb → (∀ d, i ≠ .wrb d) → t.shreg = s.shreg ∧ t.bit = s.bit) ∧
    (i = .rds → t.lastSda = s.lastSda) ∧
    t.envScript = s.envScript.drop i.samples

/-- R91, R200: the numbers of drive steps, of sample and configuration steps, and of waits of each operation. -/
def Obligations.StepCountsOfEachOperation : Prop :=
  ∀ (i : Instr) (s : State), s.busy = false → ∃ t, exec i s = .next t ∧
    (newEvents s t).countP Event.isDrive = i.driveSteps s.stretchPending ∧
    (newEvents s t).countP Event.isWait = i.waits s.stretchPending ∧
    (newEvents s t).countP Event.isSample = i.samples ∧
    (newEvents s t).length = i.driveSteps s.stretchPending + i.waits s.stretchPending + i.otherSteps

/-- R89: "No decision depends on a sampled level". With any other answers and any other free environment the block
makes the same events, but for the levels the samples return, and ends with the same requests, flag and position. -/
def Obligations.SampledLevelsNeverSteerTheBlock : Prop :=
  ∀ (i : Instr) (s : State) (answers : List Level) (run : Nat), s.busy = false →
    ∃ t t', exec i s = .next t ∧ exec i { s with envScript := answers, runNo := run } = .next t' ∧
      (newEvents s t').map Event.shape = (newEvents s t).map Event.shape ∧
      t'.lines = t.lines ∧ t'.stretchPending = t.stretchPending ∧ t'.op = t.op ∧ t'.bit = t.bit ∧ t'.lvl = t.lvl

/-- R163: after a RACK the block is in the same state whether the slave acknowledged or not, except for `res` (and the
model's record of the sample). -/
def Obligations.NackLeavesTheStateOfAnAck : Prop :=
  ∀ (s : State) (rest : List Level), s.busy = false →
    ∃ t t', exec .rack { s with envScript := ACK :: rest } = .next t ∧
      exec .rack { s with envScript := NACK :: rest } = .next t' ∧
      t.res = 0x00#8 ∧ t'.res = 0x01#8 ∧
      t' = { t with res := t'.res, smp := t'.smp, trace := t'.trace } ∧
      t'.trace.map Event.shape = t.trace.map Event.shape

/-- R171: no functional result depends on the length of a wait: with any other half-cycle the pad trace, the return
value and every other register come out the same. -/
def Obligations.HalfCycleIsOnlyTiming : Prop :=
  (∀ (i : Instr) (s : State) (h : HalfCycle), s.busy = false → (∀ sda scl hc, i ≠ .begin sda scl hc) →
    ∃ t, exec i s = .next t ∧ exec i { s with halfCycleUs := h } = .next { t with halfCycleUs := h }) ∧
  (∀ (s : State) (sda scl : Byte) (hc h : HalfCycle), s.busy = false →
    ∃ t, exec (.begin sda scl hc) s = .next t ∧ exec (.begin sda scl h) s = .next { t with halfCycleUs := h })

/-- R11: "The block never interprets the value": with any other pin identifiers every operation but BEGIN does the
same, and they stay on their outputs. -/
def Obligations.PinIdentifiersAreOpaque : Prop :=
  ∀ (i : Instr) (s : State) (a b : Byte), s.busy = false → (∀ sda scl hc, i ≠ .begin sda scl hc) →
    ∃ t, exec i s = .next t ∧
      exec i { s with sdaPin := a, sclPin := b } = .next { t with sdaPin := a, sclPin := b } ∧
      t.outputs.sdaPinO = s.sdaPin ∧ t.outputs.sclPinO = s.sclPin

/-- R52: the pad trace only grows, at every step of the machine. -/
def Obligations.TraceOnlyGrows : Prop := ∀ s t : State, step s = .next t → s.trace <+: t.trace

/-- R185, 93_implementation_defined.md U2, U3: after reset the block is not configured, and until a BEGIN has been accepted
`step` refuses every other command; within the host's contract a command completes configured and with
`half_cycle_us ≥ 1`; both are kept at every step, the latter "an invariant of every state after the first BEGIN". -/
def Obligations.ContractKeepsTheBlockConfigured : Prop :=
  (State.reset.configured = false ∧ ∀ s : State, (s.stimulus .resetLow).configured = false) ∧
  (∀ (s : State) (w : CmdWord) (rest : List CmdWord) (i : Instr), s.busy = false → s.configured = false →
    s.cmds = w :: rest → decode w = .ok i → (∀ sda scl hc, i ≠ .begin sda scl hc) →
      step s = .refused (.beforeBegin i)) ∧
  (∀ (i : Instr) (s : State), s.busy = false → s.ConfiguredWaits → s.inContract i = true →
    ∃ t, exec i s = .next t ∧ t.configured = true ∧ t.halfCycleUs ≠ 0#12) ∧
  (∀ s t : State, step s = .next t →
    (s.configured = true → t.configured = true) ∧ (s.halfCycleUs ≠ 0#12 → t.halfCycleUs ≠ 0#12) ∧
    (s.ConfiguredWaits → t.ConfiguredWaits))

/-! ## Invariants every step keeps -/

/-- R16: `last_sda`/`last_scl` equal the level most recently requested on each line, in every state a step reaches from
a state where they do, within operations too. -/
def Obligations.StepKeepsRequestTracking : Prop :=
  ∀ s t : State, linesAfter (HIGH, HIGH) s.trace = s.lines → step s = .next t →
    linesAfter (HIGH, HIGH) t.trace = t.lines

/-- The invariant of R16 holds at reset. -/
def Obligations.ResetTracksRequests : Prop :=
  linesAfter (HIGH, HIGH) State.reset.trace = State.reset.lines

/-- R20, R128: every step from a quiet state ends in a quiet state. -/
def Obligations.StepKeepsQuiet : Prop := ∀ s t : State, s.Quiet → step s = .next t → t.Quiet

/-- The reset state is quiet. -/
def Obligations.ResetIsQuiet : Prop := State.reset.Quiet

/-! ## What the lines show -/

/-- R44, R45: a sample returns `request AND env`, reads LOW while the block itself pulls the line LOW, changes no request
and appends its event. -/
def Obligations.SampleIsRequestAndEnvironment : Prop :=
  ∀ s : State,
    s.sampleSda.smp = (s.lastSda && s.envAnswer .sda) ∧ s.sampleScl.smp = (s.lastScl && s.envAnswer .scl) ∧
    s.shiftSda.trace = s.trace ++ [.sampleSda (s.lastSda && s.envAnswer .sda)] ∧
    s.sampleSda.trace = s.trace ++ [.sampleSda s.sampleSda.smp] ∧
    s.sampleScl.trace = s.trace ++ [.sampleScl s.sampleScl.smp] ∧
    (s.lastSda = LOW → s.sampleSda.smp = LOW) ∧ (s.lastScl = LOW → s.sampleScl.smp = LOW) ∧
    s.sampleSda.lines = s.lines ∧ s.sampleScl.lines = s.lines ∧ s.shiftSda.lines = s.lines ∧
    (∀ a rest, s.envScript = a :: rest → s.envAnswer .sda = a ∧ s.envAnswer .scl = a)

/-- R40, R172: a pad pulls its line LOW exactly when its request is 0 and otherwise leaves it, so the wire is
`last_x AND env_x`. -/
def Obligations.PadsPullLowOrRelease : Prop :=
  ∀ (s : State) (env : Level),
    wireLevel (padOf s.outputs.sdaPullLow) env = (s.lastSda && env) ∧
    wireLevel (padOf s.outputs.sclPullLow) env = (s.lastScl && env) ∧
    (padOf s.outputs.sdaPullLow = .pullLow ↔ s.lastSda = LOW) ∧
    (padOf s.outputs.sclPullLow = .pullLow ↔ s.lastScl = LOW)

/-- R47: every drive step changes at most one request, except BEGIN's when both lines were LOW. -/
def Obligations.OneLinePerDriveStep : Prop :=
  ∀ (i : Instr) (s : State), s.Quiet → ∃ t, exec i s = .next t ∧
    ((∀ sda scl hc, i ≠ .begin sda scl hc) → oneLinePerStep s.lines (newEvents s t) = true) ∧
    (∀ sda scl hc, i = .begin sda scl hc →
      (oneLinePerStep s.lines (newEvents s t) = false ↔ s.lines = (LOW, LOW)))

/-- R111: START from each line state: the pad trace, the wire changes and the conditions of the table. -/
def Obligations.StartFromEachLineState : Prop :=
  ∀ s : State, s.busy = false → ∃ t, exec .start s = .next t ∧ newEvents s t = traceStart s.lines ∧
    t.lines = (LOW, HIGH) ∧
    (s.lines = (HIGH, HIGH) → wireTrace s.lines (newEvents s t) = [.drive LOW HIGH] ∧
      conditions s.lines (newEvents s t) = [.start]) ∧
    (s.lines = (HIGH, LOW) → wireTrace s.lines (newEvents s t) = [.drive HIGH HIGH, .drive LOW HIGH] ∧
      conditions s.lines (newEvents s t) = [.start]) ∧
    (s.lines = (LOW, LOW) →
      wireTrace s.lines (newEvents s t) = [.drive HIGH LOW, .drive HIGH HIGH, .drive LOW HIGH] ∧
      conditions s.lines (newEvents s t) = [.start]) ∧
    (s.lines = (LOW, HIGH) → wireTrace s.lines (newEvents s t) = [.drive HIGH HIGH, .drive LOW HIGH] ∧
      conditions s.lines (newEvents s t) = [.stop, .start])

/-- R114: STOP from each line state: the pad trace, the wire changes and the conditions of the table. -/
def Obligations.StopFromEachLineState : Prop :=
  ∀ s : State, s.busy = false → ∃ t, exec .stop s = .next t ∧ newEvents s t = traceStop s.lines ∧
    t.lines = (HIGH, HIGH) ∧
    (s.lines = (HIGH, LOW) →
      wireTrace s.lines (newEvents s t) = [.drive LOW LOW, .drive LOW HIGH, .drive HIGH HIGH] ∧
      conditions s.lines (newEvents s t) = [.stop]) ∧
    (s.lines = (LOW, LOW) → wireTrace s.lines (newEvents s t) = [.drive LOW HIGH, .drive HIGH HIGH] ∧
      conditions s.lines (newEvents s t) = [.stop]) ∧
    (s.lines = (LOW, HIGH) → wireTrace s.lines (newEvents s t) = [.drive HIGH HIGH] ∧
      conditions s.lines (newEvents s t) = [.stop]) ∧
    (s.lines = (HIGH, HIGH) → wireTrace s.lines (newEvents s t) = [.drive LOW HIGH, .drive HIGH HIGH] ∧
      conditions s.lines (newEvents s t) = [.start, .stop])

/-- R103 (b) and R8's definition of a stop condition, on the requests: a BEGIN issued with SDA LOW and SCL HIGH makes a
stop condition, and from the other line states the requests make none. What slaves make of two lines that rise on one
edge, from `(0, 0)`, R103 leaves undefined and this does not say. -/
def Obligations.BeginOnABusyLineMakesAStop : Prop :=
  ∀ (s : State) (sda scl : Byte) (hc : HalfCycle), s.busy = false →
    ∃ t, exec (.begin sda scl hc) s = .next t ∧
      (conditions s.lines (newEvents s t) = [.stop] ↔ s.lines = (LOW, HIGH)) ∧
      (s.lines ≠ (LOW, HIGH) → conditions s.lines (newEvents s t) = [])

/-- R121, R127, R128, R143 (c): WRB, WACKL (in its three spellings) and RACK make no start and no stop condition, from any
line state and for any data; nor does RDB, except that one that skips its leading steps with SDA LOW and SCL HIGH makes
the one stop condition of R128. -/
def Obligations.BytesAndAcknowledgesMakeNoCondition : Prop :=
  ∀ (i : Instr) (s : State), s.busy = false →
    ((∃ d, i = .wrb d) ∨ (∃ l, i.core = .wackl l) ∨ i = .rack ∨ i = .rdb) →
    ∃ t, exec i s = .next t ∧
      (i = .rdb → s.stretchPending = true → s.lines = (LOW, HIGH) →
        conditions s.lines (newEvents s t) = [.stop]) ∧
      (¬(i = .rdb ∧ s.stretchPending = true ∧ s.lines = (LOW, HIGH)) → conditions s.lines (newEvents s t) = [])

/-- R48: bits travel most significant first. WRB's k-th clock pulse carries `data[8-k]`; the level RDB samples in its
k-th pulse becomes bit `8-k` of the byte. -/
def Obligations.BitsTravelMostSignificantFirst : Prop :=
  (∀ (s : State) (d : Byte), s.busy = false → ∃ t, exec (.wrb d) s = .next t ∧
    (clockRises s.lines (newEvents s t)).length = 8 ∧
    ∀ k, 1 ≤ k → k ≤ 8 → (clockRises s.lines (newEvents s t))[k - 1]? = some (d.getLsbD (8 - k))) ∧
  (∀ s : State, s.busy = false → ∃ t, exec .rdb s = .next t ∧
    (sampledLevels (newEvents s t)).length = 8 ∧
    ∀ k, 1 ≤ k → k ≤ 8 → (sampledLevels (newEvents s t))[k - 1]? = some (t.res.getLsbD (8 - k)))

/-- R126: however many samples have been taken, `shreg` holds them, the first in the highest place, and is 0 above. -/
def Obligations.SamplesAccumulateFromTheTop : Prop :=
  ∀ (s : State) (bits : List (BitVec 3)), s.shreg = 0x00#8 → bits.length ≤ 8 →
    let t := bits.foldl rdbBit s
    let vs := sampledLevels (newEvents s t)
    vs.length = bits.length ∧ t.res = s.res ∧
    (∀ k < bits.length, vs[k]? = some (t.shreg.getLsbD (bits.length - 1 - k))) ∧
    (∀ j, bits.length ≤ j → t.shreg.getLsbD j = false)

/-- R130: write then read on a loopback bus: an RDB answered with the levels SDA had at the clock pulses of the
preceding `WRB v` returns `v`. -/
def Obligations.LoopbackReturnsTheByteWritten : Prop :=
  ∀ (s : State) (v : Byte) (rest : List Level), s.busy = false →
    ∃ t u, exec (.wrb v) s = .next t ∧
      exec .rdb { t with envScript := clockRises s.lines (newEvents s t) ++ rest } = .next u ∧ u.res = v

/-- R153: an RDS and the RDB after it, from `(1, 0)`, make 8 rising SCL requests in all, one by RDS and 7 by RDB, and
the RDB has no step with SCL LOW before its first sample. -/
def Obligations.ProbeOpensTheFirstClockPulse : Prop :=
  ∀ s : State, s.busy = false → s.lines = (HIGH, LOW) →
    ∃ t u, exec .rds s = .next t ∧ exec .rdb t = .next u ∧
      (clockRises s.lines (newEvents s t)).length = 1 ∧ (clockRises t.lines (newEvents t u)).length = 7 ∧
      (newEvents t u).take 2 = [.drive HIGH HIGH, .wait] ∧
      ((newEvents t u)[2]?.any Event.isSample) = true ∧ u.stretchPending = false

/-- R154 (d), 95_test_vectors.md V44, R188: the grammar of R188 lets an RDS follow a START at once; the RDB after it then
raises SDA while SCL is HIGH, a stop condition. -/
def Obligations.ProbeRightAfterStartEndsInAStop : Prop :=
  (Phase.started.allowed .rds = some .probedLow ∧ Phase.probedLow.allowed .rdb = some .read) ∧
  ∀ s : State, s.busy = false → Phase.started.fits s = true →
    ∃ t u, exec .rds s = .next t ∧ exec .rdb t = .next u ∧
      conditions s.lines (newEvents s t) = [] ∧ conditions t.lines (newEvents t u) = [.stop]

/-- The host's grammar keeps the bus valid, with one exception: in every phase of R188's formula a command it allows makes
exactly its own condition, one start for START, one stop for STOP, none otherwise, and leaves the lines and the flag as
the next phase expects; only the RDB that closes an RDS directly after a START makes a stop condition nobody asked for
(R154 (d)). The whole of R188, with the last byte answered by WNACK, allows no more than the formula. -/
def Obligations.GrammarMakesOnlyOwnConditions : Prop :=
  (∀ (p q : Phase) (i : Instr) (s : State), s.busy = false → p.fits s = true → p.next i = some q →
    ∃ t, exec i s = .next t ∧ q.fits t = true ∧
      (p = .probedLow → i = .rdb → conditions s.lines (newEvents s t) = [.stop]) ∧
      (¬(p = .probedLow ∧ i = .rdb) → conditions s.lines (newEvents s t) = ownConditions i)) ∧
  (∀ (p q : Phase) (i : Instr), p.allowed i = some q → p.next i = some q)

/-! ## The clock-level machine -/

/-- R28, R91, R200: the clock-level machine, running the step tables with the delay counter, reaches exactly the state
the operation-level meaning gives, after exactly the number of clock cycles of R200's table. -/
def Obligations.ClockMachineRunsEachOperation : Prop :=
  ∀ (s : State) (w : CmdWord) (rest : List CmdWord) (i : Instr),
    s.busy = false → s.dly = 0#12 → s.cmds = w :: rest → decode w = .ok i →
    ∃ t, exec i { s with cmds := rest } = .next t ∧ s.systemEdges (s.cycles Config.clkPerUs i) = t

/-- R170: a wait lasts exactly `half_cycle_us × CLK_PER_US` edges: before that many, `dly` is not 0 and nothing but the
counter has changed; at that many, the wait is over and the position moves on. -/
def Obligations.WaitLastsHalfCycleTimesClock : Prop :=
  ∀ (clk : Nat) (s : State), 0 < clk → s.busy = true → s.halfCycleUs ≠ 0#12 →
    (∀ n, 0 < n → n < s.halfCycleUs.toNat * clk →
      ∃ d p, d ≠ 0#12 ∧ State.busyEdges clk n (s.startWait clk) =
        { s.startWait clk with dly := d, presc := p, rspValid := false, odCfg := false }) ∧
    State.busyEdges clk (s.halfCycleUs.toNat * clk) (s.startWait clk) =
      State.advance { s.startWait clk with dly := 0#12, presc := clk - 1, rspValid := false, odCfg := false }

/-- R86, R126: nothing is returned before completion. An edge of an operation in progress either leaves `res` alone and
`rsp_valid` at 0 and the block busy, or completes with `rsp_valid` at 1. -/
def Obligations.NoPartialResult : Prop :=
  ∀ (clk : Nat) (s : State), s.busy = true →
    let t := s.busyEdge clk
    (t.busy = true ∧ t.rspValid = false ∧ t.outputs.rspData = s.outputs.rspData) ∨
    (t.busy = false ∧ t.rspValid = true ∧ t.outputs.rspData = s.result ∧ t.lines = s.lines ∧
      s.dly = 0#12 ∧ s.currentRow = none)

/-- R166 (c): a command presented in the completion cycle is accepted at the edge that ends it, and the finished
operation's `res` is not disturbed. -/
def Obligations.CompletionCycleAcceptsTheNextCommand : Prop :=
  ∀ (s : State) (w : CmdWord) (i : Instr), s.busy = false → s.rspValid = true → decode w = .ok i →
    let t := s.edge { rstN := true, cmdValid := true, cmd := w }
    t.busy = true ∧ t.op = i.opcode ∧ t.rspValid = false ∧ t.res = s.res ∧ t.lines = s.lines ∧ t.trace = s.trace

/-- R87: every wait flag of every step table, and of RDB's table without its leading rows, is the one the placement
rule gives, whichever level SCL had before; and so, in WRB, RDB, WACKL and RACK, every SCL phase from the leading step on
lasts one wait. -/
def Obligations.WaitFlagsFollowThePlacementRule : Prop :=
  (∀ t ∈ [tableBegin, tableStart, tableStop, tableWrb, tableRdb, { tableRdb with lead := [] }, tableWackl, tableRack,
    tableRds], ∀ (c : Level) (k : Nat) (r : Row) (b : BitVec 3), t.unrolled[k]? = some (r, b) →
    r.wait.holds b = r.flagByRule (t.unrolled[k + 1]?.map Prod.fst) c) ∧
  (∀ (i : Instr) (s : State), s.busy = false → ∃ t, exec i s = .next t ∧
    (((∃ d, i = .wrb d) ∨ (i = .rdb ∧ s.stretchPending = false)) →
      sclPhases LOW 0 (newEvents s t) = (LOW, 1) :: (List.replicate 8 [(HIGH, 1), (LOW, 1)]).flatten) ∧
    (i = .rdb → s.stretchPending = true →
      sclPhases HIGH 0 (newEvents s t) = (List.replicate 8 [(HIGH, 1), (LOW, 1)]).flatten) ∧
    (((∃ l, i.core = .wackl l) ∨ i = .rack) →
      sclPhases LOW 0 (newEvents s t) = [(LOW, 1), (HIGH, 1), (LOW, 1)]))

/-- R83: what acceptance does to the flag. Every command but RDS clears it at the accepting edge, RDB keeps its old value
in `skip`, RDS leaves it; nothing happens on the pads at that edge (R81). -/
def Obligations.AcceptanceHandlesTheFlag : Prop :=
  ∀ (s : State) (w : CmdWord) (i : Instr), s.busy = false → decode w = .ok i →
    let t := s.edge { rstN := true, cmdValid := true, cmd := w }
    t.busy = true ∧ t.op = w.extractLsb' 28 4 ∧ t.lines = s.lines ∧ t.trace = s.trace ∧
    (i ≠ .rds → t.stretchPending = false) ∧ (i = .rds → t.stretchPending = s.stretchPending) ∧
    (i = .rdb → t.skip = s.stretchPending) ∧ (i ≠ .rdb → t.skip = s.skip)

/-- R152: an RDS after an RDS requests what already stands: its pad trace is `D(s,1) w C=c`, the wire trace holds the
sample alone, and the flag stays set, however many polls the host makes. -/
def Obligations.RepeatedProbesMoveNoLine : Prop :=
  ∀ s : State, s.busy = false → ∃ t, exec .rds s = .next t ∧ t.stretchPending = true ∧
    ∃ u c, exec .rds t = .next u ∧ newEvents t u = [.drive s.lastSda HIGH, .wait, .sampleScl c] ∧
      wireTrace t.lines (newEvents t u) = [.sampleScl c] ∧ u.lines = t.lines ∧ u.stretchPending = true

/-- R42, R155: the lines are looked at in RDB, RACK and RDS only, and SCL in RDS only; no other operation samples
anything, so a slave that stretches anywhere else goes unseen. -/
def Obligations.OnlyTheProbeReadsScl : Prop :=
  ∀ (i : Instr) (s : State), s.busy = false → ∃ t, exec i s = .next t ∧
    (i ≠ .rds → ∀ e ∈ newEvents s t, ∀ v, e ≠ .sampleScl v) ∧
    (i ≠ .rdb → i ≠ .rack → ∀ e ∈ newEvents s t, ∀ v, e ≠ .sampleSda v) ∧
    (i ≠ .rdb → i ≠ .rack → i ≠ .rds → t.envScript = s.envScript)

/-- R101: after the accepting edge of a BEGIN, with `od_cfg` still 0, both identifiers show on their outputs; the next edge
does row B0, sets `od_cfg` to 1 and records OD, and changes no register but the position; the edge after it clears
`od_cfg`. No other edge sets `od_cfg`. -/
def Obligations.ConfigurationPulseOfBegin : Prop :=
  (∀ (s : State) (w : CmdWord) (sda scl : Byte) (hc : HalfCycle) (inp inp' : Inputs),
    s.busy = false → s.dly = 0#12 → decode w = .ok (.begin sda scl hc) → inp.rstN = true →
    let a := s.edge { rstN := true, cmdValid := true, cmd := w }
    let b := a.edge inp
    a.outputs.odCfg = false ∧ a.outputs.sdaPinO = sda ∧ a.outputs.sclPinO = scl ∧
    b.outputs.odCfg = true ∧ b.outputs.sdaPinO = sda ∧ b.outputs.sclPinO = scl ∧
    b = { a with odCfg := true, step := .B1, trace := s.trace ++ [.od sda scl] } ∧
    (b.edge inp').outputs.odCfg = false) ∧
  (∀ (s : State) (inp : Inputs), (s.edge inp).outputs.odCfg = true →
    inp.rstN = true ∧ s.busy = true ∧ s.dly = 0#12 ∧ s.op = 0x1#4 ∧ s.step = .B0)
end

