-- ==== Sys2Proof/Laws/State.lean ====
section
/-! SUPPORT. One lemma per field per update of State, true by rfl, so that no proof unfolds a record update. -/

namespace Sys2Proof.Machine

variable (s : State)

@[simp] theorem State.drive_sdaPin (sda scl : Level) : (s.drive sda scl).sdaPin = s.sdaPin := rfl
@[simp] theorem State.drive_sclPin (sda scl : Level) : (s.drive sda scl).sclPin = s.sclPin := rfl
@[simp] theorem State.drive_halfCycleUs (sda scl : Level) : (s.drive sda scl).halfCycleUs = s.halfCycleUs := rfl
@[simp] theorem State.drive_lastSda (sda scl : Level) : (s.drive sda scl).lastSda = sda := rfl
@[simp] theorem State.drive_lastScl (sda scl : Level) : (s.drive sda scl).lastScl = scl := rfl
@[simp] theorem State.drive_stretchPending (sda scl : Level) : (s.drive sda scl).stretchPending = s.stretchPending := rfl
@[simp] theorem State.drive_res (sda scl : Level) : (s.drive sda scl).res = s.res := rfl
@[simp] theorem State.drive_busy (sda scl : Level) : (s.drive sda scl).busy = s.busy := rfl
@[simp] theorem State.drive_op (sda scl : Level) : (s.drive sda scl).op = s.op := rfl
@[simp] theorem State.drive_step (sda scl : Level) : (s.drive sda scl).step = s.step := rfl
@[simp] theorem State.drive_bit (sda scl : Level) : (s.drive sda scl).bit = s.bit := rfl
@[simp] theorem State.drive_shreg (sda scl : Level) : (s.drive sda scl).shreg = s.shreg := rfl
@[simp] theorem State.drive_lvl (sda scl : Level) : (s.drive sda scl).lvl = s.lvl := rfl
@[simp] theorem State.drive_skip (sda scl : Level) : (s.drive sda scl).skip = s.skip := rfl
@[simp] theorem State.drive_dly (sda scl : Level) : (s.drive sda scl).dly = s.dly := rfl
@[simp] theorem State.drive_presc (sda scl : Level) : (s.drive sda scl).presc = s.presc := rfl
@[simp] theorem State.drive_smp (sda scl : Level) : (s.drive sda scl).smp = s.smp := rfl
@[simp] theorem State.drive_rspValid (sda scl : Level) : (s.drive sda scl).rspValid = s.rspValid := rfl
@[simp] theorem State.drive_odCfg (sda scl : Level) : (s.drive sda scl).odCfg = s.odCfg := rfl
@[simp] theorem State.drive_trace (sda scl : Level) : (s.drive sda scl).trace = s.trace ++ [.drive sda scl] := rfl
@[simp] theorem State.drive_cmds (sda scl : Level) : (s.drive sda scl).cmds = s.cmds := rfl
@[simp] theorem State.drive_envScript (sda scl : Level) : (s.drive sda scl).envScript = s.envScript := rfl
@[simp] theorem State.drive_configured (sda scl : Level) : (s.drive sda scl).configured = s.configured := rfl
@[simp] theorem State.drive_runNo (sda scl : Level) : (s.drive sda scl).runNo = s.runNo := rfl

@[simp] theorem State.startWait_sdaPin (clk : Nat) : (s.startWait clk).sdaPin = s.sdaPin := rfl
@[simp] theorem State.startWait_sclPin (clk : Nat) : (s.startWait clk).sclPin = s.sclPin := rfl
@[simp] theorem State.startWait_halfCycleUs (clk : Nat) : (s.startWait clk).halfCycleUs = s.halfCycleUs := rfl
@[simp] theorem State.startWait_lastSda (clk : Nat) : (s.startWait clk).lastSda = s.lastSda := rfl
@[simp] theorem State.startWait_lastScl (clk : Nat) : (s.startWait clk).lastScl = s.lastScl := rfl
@[simp] theorem State.startWait_stretchPending (clk : Nat) : (s.startWait clk).stretchPending = s.stretchPending := rfl
@[simp] theorem State.startWait_res (clk : Nat) : (s.startWait clk).res = s.res := rfl
@[simp] theorem State.startWait_busy (clk : Nat) : (s.startWait clk).busy = s.busy := rfl
@[simp] theorem State.startWait_op (clk : Nat) : (s.startWait clk).op = s.op := rfl
@[simp] theorem State.startWait_step (clk : Nat) : (s.startWait clk).step = s.step := rfl
@[simp] theorem State.startWait_bit (clk : Nat) : (s.startWait clk).bit = s.bit := rfl
@[simp] theorem State.startWait_shreg (clk : Nat) : (s.startWait clk).shreg = s.shreg := rfl
@[simp] theorem State.startWait_lvl (clk : Nat) : (s.startWait clk).lvl = s.lvl := rfl
@[simp] theorem State.startWait_skip (clk : Nat) : (s.startWait clk).skip = s.skip := rfl
@[simp] theorem State.startWait_dly (clk : Nat) : (s.startWait clk).dly = s.halfCycleUs := rfl
@[simp] theorem State.startWait_presc (clk : Nat) : (s.startWait clk).presc = clk - 1 := rfl
@[simp] theorem State.startWait_smp (clk : Nat) : (s.startWait clk).smp = s.smp := rfl
@[simp] theorem State.startWait_rspValid (clk : Nat) : (s.startWait clk).rspValid = s.rspValid := rfl
@[simp] theorem State.startWait_odCfg (clk : Nat) : (s.startWait clk).odCfg = s.odCfg := rfl
@[simp] theorem State.startWait_trace (clk : Nat) : (s.startWait clk).trace = s.trace ++ [.wait] := rfl
@[simp] theorem State.startWait_cmds (clk : Nat) : (s.startWait clk).cmds = s.cmds := rfl
@[simp] theorem State.startWait_envScript (clk : Nat) : (s.startWait clk).envScript = s.envScript := rfl
@[simp] theorem State.startWait_configured (clk : Nat) : (s.startWait clk).configured = s.configured := rfl
@[simp] theorem State.startWait_runNo (clk : Nat) : (s.startWait clk).runNo = s.runNo := rfl

@[simp] theorem State.elapse_sdaPin (clk : Nat) : (s.elapse clk).sdaPin = s.sdaPin := rfl
@[simp] theorem State.elapse_sclPin (clk : Nat) : (s.elapse clk).sclPin = s.sclPin := rfl
@[simp] theorem State.elapse_halfCycleUs (clk : Nat) : (s.elapse clk).halfCycleUs = s.halfCycleUs := rfl
@[simp] theorem State.elapse_lastSda (clk : Nat) : (s.elapse clk).lastSda = s.lastSda := rfl
@[simp] theorem State.elapse_lastScl (clk : Nat) : (s.elapse clk).lastScl = s.lastScl := rfl
@[simp] theorem State.elapse_stretchPending (clk : Nat) : (s.elapse clk).stretchPending = s.stretchPending := rfl
@[simp] theorem State.elapse_res (clk : Nat) : (s.elapse clk).res = s.res := rfl
@[simp] theorem State.elapse_busy (clk : Nat) : (s.elapse clk).busy = s.busy := rfl
@[simp] theorem State.elapse_op (clk : Nat) : (s.elapse clk).op = s.op := rfl
@[simp] theorem State.elapse_step (clk : Nat) : (s.elapse clk).step = s.step := rfl
@[simp] theorem State.elapse_bit (clk : Nat) : (s.elapse clk).bit = s.bit := rfl
@[simp] theorem State.elapse_shreg (clk : Nat) : (s.elapse clk).shreg = s.shreg := rfl
@[simp] theorem State.elapse_lvl (clk : Nat) : (s.elapse clk).lvl = s.lvl := rfl
@[simp] theorem State.elapse_skip (clk : Nat) : (s.elapse clk).skip = s.skip := rfl
@[simp] theorem State.elapse_dly (clk : Nat) : (s.elapse clk).dly = 0#12 := rfl
@[simp] theorem State.elapse_presc (clk : Nat) : (s.elapse clk).presc = clk - 1 := rfl
@[simp] theorem State.elapse_smp (clk : Nat) : (s.elapse clk).smp = s.smp := rfl
@[simp] theorem State.elapse_rspValid (clk : Nat) : (s.elapse clk).rspValid = s.rspValid := rfl
@[simp] theorem State.elapse_odCfg (clk : Nat) : (s.elapse clk).odCfg = s.odCfg := rfl
@[simp] theorem State.elapse_trace (clk : Nat) : (s.elapse clk).trace = s.trace := rfl
@[simp] theorem State.elapse_cmds (clk : Nat) : (s.elapse clk).cmds = s.cmds := rfl
@[simp] theorem State.elapse_envScript (clk : Nat) : (s.elapse clk).envScript = s.envScript := rfl
@[simp] theorem State.elapse_configured (clk : Nat) : (s.elapse clk).configured = s.configured := rfl
@[simp] theorem State.elapse_runNo (clk : Nat) : (s.elapse clk).runNo = s.runNo := rfl

@[simp] theorem State.wait_sdaPin : (s.wait).sdaPin = s.sdaPin := rfl
@[simp] theorem State.wait_sclPin : (s.wait).sclPin = s.sclPin := rfl
@[simp] theorem State.wait_halfCycleUs : (s.wait).halfCycleUs = s.halfCycleUs := rfl
@[simp] theorem State.wait_lastSda : (s.wait).lastSda = s.lastSda := rfl
@[simp] theorem State.wait_lastScl : (s.wait).lastScl = s.lastScl := rfl
@[simp] theorem State.wait_stretchPending : (s.wait).stretchPending = s.stretchPending := rfl
@[simp] theorem State.wait_res : (s.wait).res = s.res := rfl
@[simp] theorem State.wait_busy : (s.wait).busy = s.busy := rfl
@[simp] theorem State.wait_op : (s.wait).op = s.op := rfl
@[simp] theorem State.wait_step : (s.wait).step = s.step := rfl
@[simp] theorem State.wait_bit : (s.wait).bit = s.bit := rfl
@[simp] theorem State.wait_shreg : (s.wait).shreg = s.shreg := rfl
@[simp] theorem State.wait_lvl : (s.wait).lvl = s.lvl := rfl
@[simp] theorem State.wait_skip : (s.wait).skip = s.skip := rfl
@[simp] theorem State.wait_dly : (s.wait).dly = 0#12 := rfl
@[simp] theorem State.wait_presc : (s.wait).presc = Config.clkPerUs - 1 := rfl
@[simp] theorem State.wait_smp : (s.wait).smp = s.smp := rfl
@[simp] theorem State.wait_rspValid : (s.wait).rspValid = s.rspValid := rfl
@[simp] theorem State.wait_odCfg : (s.wait).odCfg = s.odCfg := rfl
@[simp] theorem State.wait_trace : (s.wait).trace = s.trace ++ [.wait] := rfl
@[simp] theorem State.wait_cmds : (s.wait).cmds = s.cmds := rfl
@[simp] theorem State.wait_envScript : (s.wait).envScript = s.envScript := rfl
@[simp] theorem State.wait_configured : (s.wait).configured = s.configured := rfl
@[simp] theorem State.wait_runNo : (s.wait).runNo = s.runNo := rfl

@[simp] theorem State.answered_sdaPin : (s.answered).sdaPin = s.sdaPin := rfl
@[simp] theorem State.answered_sclPin : (s.answered).sclPin = s.sclPin := rfl
@[simp] theorem State.answered_halfCycleUs : (s.answered).halfCycleUs = s.halfCycleUs := rfl
@[simp] theorem State.answered_lastSda : (s.answered).lastSda = s.lastSda := rfl
@[simp] theorem State.answered_lastScl : (s.answered).lastScl = s.lastScl := rfl
@[simp] theorem State.answered_stretchPending : (s.answered).stretchPending = s.stretchPending := rfl
@[simp] theorem State.answered_res : (s.answered).res = s.res := rfl
@[simp] theorem State.answered_busy : (s.answered).busy = s.busy := rfl
@[simp] theorem State.answered_op : (s.answered).op = s.op := rfl
@[simp] theorem State.answered_step : (s.answered).step = s.step := rfl
@[simp] theorem State.answered_bit : (s.answered).bit = s.bit := rfl
@[simp] theorem State.answered_shreg : (s.answered).shreg = s.shreg := rfl
@[simp] theorem State.answered_lvl : (s.answered).lvl = s.lvl := rfl
@[simp] theorem State.answered_skip : (s.answered).skip = s.skip := rfl
@[simp] theorem State.answered_dly : (s.answered).dly = s.dly := rfl
@[simp] theorem State.answered_presc : (s.answered).presc = s.presc := rfl
@[simp] theorem State.answered_smp : (s.answered).smp = s.smp := rfl
@[simp] theorem State.answered_rspValid : (s.answered).rspValid = s.rspValid := rfl
@[simp] theorem State.answered_odCfg : (s.answered).odCfg = s.odCfg := rfl
@[simp] theorem State.answered_trace : (s.answered).trace = s.trace := rfl
@[simp] theorem State.answered_cmds : (s.answered).cmds = s.cmds := rfl
@[simp] theorem State.answered_envScript : (s.answered).envScript = s.envScript.tail := rfl
@[simp] theorem State.answered_configured : (s.answered).configured = s.configured := rfl
@[simp] theorem State.answered_runNo : (s.answered).runNo = s.runNo := rfl

@[simp] theorem State.sampleSda_sdaPin : (s.sampleSda).sdaPin = s.sdaPin := rfl
@[simp] theorem State.sampleSda_sclPin : (s.sampleSda).sclPin = s.sclPin := rfl
@[simp] theorem State.sampleSda_halfCycleUs : (s.sampleSda).halfCycleUs = s.halfCycleUs := rfl
@[simp] theorem State.sampleSda_lastSda : (s.sampleSda).lastSda = s.lastSda := rfl
@[simp] theorem State.sampleSda_lastScl : (s.sampleSda).lastScl = s.lastScl := rfl
@[simp] theorem State.sampleSda_stretchPending : (s.sampleSda).stretchPending = s.stretchPending := rfl
@[simp] theorem State.sampleSda_res : (s.sampleSda).res = s.res := rfl
@[simp] theorem State.sampleSda_busy : (s.sampleSda).busy = s.busy := rfl
@[simp] theorem State.sampleSda_op : (s.sampleSda).op = s.op := rfl
@[simp] theorem State.sampleSda_step : (s.sampleSda).step = s.step := rfl
@[simp] theorem State.sampleSda_bit : (s.sampleSda).bit = s.bit := rfl
@[simp] theorem State.sampleSda_shreg : (s.sampleSda).shreg = s.shreg := rfl
@[simp] theorem State.sampleSda_lvl : (s.sampleSda).lvl = s.lvl := rfl
@[simp] theorem State.sampleSda_skip : (s.sampleSda).skip = s.skip := rfl
@[simp] theorem State.sampleSda_dly : (s.sampleSda).dly = s.dly := rfl
@[simp] theorem State.sampleSda_presc : (s.sampleSda).presc = s.presc := rfl
@[simp] theorem State.sampleSda_smp : (s.sampleSda).smp = s.sdaLevel := rfl
@[simp] theorem State.sampleSda_rspValid : (s.sampleSda).rspValid = s.rspValid := rfl
@[simp] theorem State.sampleSda_odCfg : (s.sampleSda).odCfg = s.odCfg := rfl
@[simp] theorem State.sampleSda_trace : (s.sampleSda).trace = s.trace ++ [.sampleSda s.sdaLevel] := rfl
@[simp] theorem State.sampleSda_cmds : (s.sampleSda).cmds = s.cmds := rfl
@[simp] theorem State.sampleSda_envScript : (s.sampleSda).envScript = s.envScript.tail := rfl
@[simp] theorem State.sampleSda_configured : (s.sampleSda).configured = s.configured := rfl
@[simp] theorem State.sampleSda_runNo : (s.sampleSda).runNo = s.runNo := rfl

@[simp] theorem State.sampleScl_sdaPin : (s.sampleScl).sdaPin = s.sdaPin := rfl
@[simp] theorem State.sampleScl_sclPin : (s.sampleScl).sclPin = s.sclPin := rfl
@[simp] theorem State.sampleScl_halfCycleUs : (s.sampleScl).halfCycleUs = s.halfCycleUs := rfl
@[simp] theorem State.sampleScl_lastSda : (s.sampleScl).lastSda = s.lastSda := rfl
@[simp] theorem State.sampleScl_lastScl : (s.sampleScl).lastScl = s.lastScl := rfl
@[simp] theorem State.sampleScl_stretchPending : (s.sampleScl).stretchPending = s.stretchPending := rfl
@[simp] theorem State.sampleScl_res : (s.sampleScl).res = s.res := rfl
@[simp] theorem State.sampleScl_busy : (s.sampleScl).busy = s.busy := rfl
@[simp] theorem State.sampleScl_op : (s.sampleScl).op = s.op := rfl
@[simp] theorem State.sampleScl_step : (s.sampleScl).step = s.step := rfl
@[simp] theorem State.sampleScl_bit : (s.sampleScl).bit = s.bit := rfl
@[simp] theorem State.sampleScl_shreg : (s.sampleScl).shreg = s.shreg := rfl
@[simp] theorem State.sampleScl_lvl : (s.sampleScl).lvl = s.lvl := rfl
@[simp] theorem State.sampleScl_skip : (s.sampleScl).skip = s.skip := rfl
@[simp] theorem State.sampleScl_dly : (s.sampleScl).dly = s.dly := rfl
@[simp] theorem State.sampleScl_presc : (s.sampleScl).presc = s.presc := rfl
@[simp] theorem State.sampleScl_smp : (s.sampleScl).smp = s.sclLevel := rfl
@[simp] theorem State.sampleScl_rspValid : (s.sampleScl).rspValid = s.rspValid := rfl
@[simp] theorem State.sampleScl_odCfg : (s.sampleScl).odCfg = s.odCfg := rfl
@[simp] theorem State.sampleScl_trace : (s.sampleScl).trace = s.trace ++ [.sampleScl s.sclLevel] := rfl
@[simp] theorem State.sampleScl_cmds : (s.sampleScl).cmds = s.cmds := rfl
@[simp] theorem State.sampleScl_envScript : (s.sampleScl).envScript = s.envScript.tail := rfl
@[simp] theorem State.sampleScl_configured : (s.sampleScl).configured = s.configured := rfl
@[simp] theorem State.sampleScl_runNo : (s.sampleScl).runNo = s.runNo := rfl

@[simp] theorem State.shiftSda_sdaPin : (s.shiftSda).sdaPin = s.sdaPin := rfl
@[simp] theorem State.shiftSda_sclPin : (s.shiftSda).sclPin = s.sclPin := rfl
@[simp] theorem State.shiftSda_halfCycleUs : (s.shiftSda).halfCycleUs = s.halfCycleUs := rfl
@[simp] theorem State.shiftSda_lastSda : (s.shiftSda).lastSda = s.lastSda := rfl
@[simp] theorem State.shiftSda_lastScl : (s.shiftSda).lastScl = s.lastScl := rfl
@[simp] theorem State.shiftSda_stretchPending : (s.shiftSda).stretchPending = s.stretchPending := rfl
@[simp] theorem State.shiftSda_res : (s.shiftSda).res = s.res := rfl
@[simp] theorem State.shiftSda_busy : (s.shiftSda).busy = s.busy := rfl
@[simp] theorem State.shiftSda_op : (s.shiftSda).op = s.op := rfl
@[simp] theorem State.shiftSda_step : (s.shiftSda).step = s.step := rfl
@[simp] theorem State.shiftSda_bit : (s.shiftSda).bit = s.bit := rfl
@[simp] theorem State.shiftSda_shreg : (s.shiftSda).shreg = shiftIn s.shreg s.sdaLevel := rfl
@[simp] theorem State.shiftSda_lvl : (s.shiftSda).lvl = s.lvl := rfl
@[simp] theorem State.shiftSda_skip : (s.shiftSda).skip = s.skip := rfl
@[simp] theorem State.shiftSda_dly : (s.shiftSda).dly = s.dly := rfl
@[simp] theorem State.shiftSda_presc : (s.shiftSda).presc = s.presc := rfl
@[simp] theorem State.shiftSda_smp : (s.shiftSda).smp = s.smp := rfl
@[simp] theorem State.shiftSda_rspValid : (s.shiftSda).rspValid = s.rspValid := rfl
@[simp] theorem State.shiftSda_odCfg : (s.shiftSda).odCfg = s.odCfg := rfl
@[simp] theorem State.shiftSda_trace : (s.shiftSda).trace = s.trace ++ [.sampleSda s.sdaLevel] := rfl
@[simp] theorem State.shiftSda_cmds : (s.shiftSda).cmds = s.cmds := rfl
@[simp] theorem State.shiftSda_envScript : (s.shiftSda).envScript = s.envScript.tail := rfl
@[simp] theorem State.shiftSda_configured : (s.shiftSda).configured = s.configured := rfl
@[simp] theorem State.shiftSda_runNo : (s.shiftSda).runNo = s.runNo := rfl

@[simp] theorem State.cfgOd_sdaPin : (s.cfgOd).sdaPin = s.sdaPin := rfl
@[simp] theorem State.cfgOd_sclPin : (s.cfgOd).sclPin = s.sclPin := rfl
@[simp] theorem State.cfgOd_halfCycleUs : (s.cfgOd).halfCycleUs = s.halfCycleUs := rfl
@[simp] theorem State.cfgOd_lastSda : (s.cfgOd).lastSda = s.lastSda := rfl
@[simp] theorem State.cfgOd_lastScl : (s.cfgOd).lastScl = s.lastScl := rfl
@[simp] theorem State.cfgOd_stretchPending : (s.cfgOd).stretchPending = s.stretchPending := rfl
@[simp] theorem State.cfgOd_res : (s.cfgOd).res = s.res := rfl
@[simp] theorem State.cfgOd_busy : (s.cfgOd).busy = s.busy := rfl
@[simp] theorem State.cfgOd_op : (s.cfgOd).op = s.op := rfl
@[simp] theorem State.cfgOd_step : (s.cfgOd).step = s.step := rfl
@[simp] theorem State.cfgOd_bit : (s.cfgOd).bit = s.bit := rfl
@[simp] theorem State.cfgOd_shreg : (s.cfgOd).shreg = s.shreg := rfl
@[simp] theorem State.cfgOd_lvl : (s.cfgOd).lvl = s.lvl := rfl
@[simp] theorem State.cfgOd_skip : (s.cfgOd).skip = s.skip := rfl
@[simp] theorem State.cfgOd_dly : (s.cfgOd).dly = s.dly := rfl
@[simp] theorem State.cfgOd_presc : (s.cfgOd).presc = s.presc := rfl
@[simp] theorem State.cfgOd_smp : (s.cfgOd).smp = s.smp := rfl
@[simp] theorem State.cfgOd_rspValid : (s.cfgOd).rspValid = s.rspValid := rfl
@[simp] theorem State.cfgOd_odCfg : (s.cfgOd).odCfg = true := rfl
@[simp] theorem State.cfgOd_trace : (s.cfgOd).trace = s.trace ++ [.od s.sdaPin s.sclPin] := rfl
@[simp] theorem State.cfgOd_cmds : (s.cfgOd).cmds = s.cmds := rfl
@[simp] theorem State.cfgOd_envScript : (s.cfgOd).envScript = s.envScript := rfl
@[simp] theorem State.cfgOd_configured : (s.cfgOd).configured = s.configured := rfl
@[simp] theorem State.cfgOd_runNo : (s.cfgOd).runNo = s.runNo := rfl

@[simp] theorem State.atBit_sdaPin (b : BitVec 3) : (s.atBit b).sdaPin = s.sdaPin := rfl
@[simp] theorem State.atBit_sclPin (b : BitVec 3) : (s.atBit b).sclPin = s.sclPin := rfl
@[simp] theorem State.atBit_halfCycleUs (b : BitVec 3) : (s.atBit b).halfCycleUs = s.halfCycleUs := rfl
@[simp] theorem State.atBit_lastSda (b : BitVec 3) : (s.atBit b).lastSda = s.lastSda := rfl
@[simp] theorem State.atBit_lastScl (b : BitVec 3) : (s.atBit b).lastScl = s.lastScl := rfl
@[simp] theorem State.atBit_stretchPending (b : BitVec 3) : (s.atBit b).stretchPending = s.stretchPending := rfl
@[simp] theorem State.atBit_res (b : BitVec 3) : (s.atBit b).res = s.res := rfl
@[simp] theorem State.atBit_busy (b : BitVec 3) : (s.atBit b).busy = s.busy := rfl
@[simp] theorem State.atBit_op (b : BitVec 3) : (s.atBit b).op = s.op := rfl
@[simp] theorem State.atBit_step (b : BitVec 3) : (s.atBit b).step = s.step := rfl
@[simp] theorem State.atBit_bit (b : BitVec 3) : (s.atBit b).bit = b := rfl
@[simp] theorem State.atBit_shreg (b : BitVec 3) : (s.atBit b).shreg = s.shreg := rfl
@[simp] theorem State.atBit_lvl (b : BitVec 3) : (s.atBit b).lvl = s.lvl := rfl
@[simp] theorem State.atBit_skip (b : BitVec 3) : (s.atBit b).skip = s.skip := rfl
@[simp] theorem State.atBit_dly (b : BitVec 3) : (s.atBit b).dly = s.dly := rfl
@[simp] theorem State.atBit_presc (b : BitVec 3) : (s.atBit b).presc = s.presc := rfl
@[simp] theorem State.atBit_smp (b : BitVec 3) : (s.atBit b).smp = s.smp := rfl
@[simp] theorem State.atBit_rspValid (b : BitVec 3) : (s.atBit b).rspValid = s.rspValid := rfl
@[simp] theorem State.atBit_odCfg (b : BitVec 3) : (s.atBit b).odCfg = s.odCfg := rfl
@[simp] theorem State.atBit_trace (b : BitVec 3) : (s.atBit b).trace = s.trace := rfl
@[simp] theorem State.atBit_cmds (b : BitVec 3) : (s.atBit b).cmds = s.cmds := rfl
@[simp] theorem State.atBit_envScript (b : BitVec 3) : (s.atBit b).envScript = s.envScript := rfl
@[simp] theorem State.atBit_configured (b : BitVec 3) : (s.atBit b).configured = s.configured := rfl
@[simp] theorem State.atBit_runNo (b : BitVec 3) : (s.atBit b).runNo = s.runNo := rfl

@[simp] theorem State.accept_sdaPin (op : BitVec 4) (first : StepLabel) : (s.accept op first).sdaPin = s.sdaPin := rfl
@[simp] theorem State.accept_sclPin (op : BitVec 4) (first : StepLabel) : (s.accept op first).sclPin = s.sclPin := rfl
@[simp] theorem State.accept_halfCycleUs (op : BitVec 4) (first : StepLabel) : (s.accept op first).halfCycleUs = s.halfCycleUs := rfl
@[simp] theorem State.accept_lastSda (op : BitVec 4) (first : StepLabel) : (s.accept op first).lastSda = s.lastSda := rfl
@[simp] theorem State.accept_lastScl (op : BitVec 4) (first : StepLabel) : (s.accept op first).lastScl = s.lastScl := rfl
@[simp] theorem State.accept_stretchPending (op : BitVec 4) (first : StepLabel) : (s.accept op first).stretchPending = s.stretchPending := rfl
@[simp] theorem State.accept_res (op : BitVec 4) (first : StepLabel) : (s.accept op first).res = s.res := rfl
@[simp] theorem State.accept_busy (op : BitVec 4) (first : StepLabel) : (s.accept op first).busy = true := rfl
@[simp] theorem State.accept_op (op : BitVec 4) (first : StepLabel) : (s.accept op first).op = op := rfl
@[simp] theorem State.accept_step (op : BitVec 4) (first : StepLabel) : (s.accept op first).step = first := rfl
@[simp] theorem State.accept_bit (op : BitVec 4) (first : StepLabel) : (s.accept op first).bit = s.bit := rfl
@[simp] theorem State.accept_shreg (op : BitVec 4) (first : StepLabel) : (s.accept op first).shreg = s.shreg := rfl
@[simp] theorem State.accept_lvl (op : BitVec 4) (first : StepLabel) : (s.accept op first).lvl = s.lvl := rfl
@[simp] theorem State.accept_skip (op : BitVec 4) (first : StepLabel) : (s.accept op first).skip = s.skip := rfl
@[simp] theorem State.accept_dly (op : BitVec 4) (first : StepLabel) : (s.accept op first).dly = s.dly := rfl
@[simp] theorem State.accept_presc (op : BitVec 4) (first : StepLabel) : (s.accept op first).presc = s.presc := rfl
@[simp] theorem State.accept_smp (op : BitVec 4) (first : StepLabel) : (s.accept op first).smp = s.smp := rfl
@[simp] theorem State.accept_rspValid (op : BitVec 4) (first : StepLabel) : (s.accept op first).rspValid = false := rfl
@[simp] theorem State.accept_odCfg (op : BitVec 4) (first : StepLabel) : (s.accept op first).odCfg = false := rfl
@[simp] theorem State.accept_trace (op : BitVec 4) (first : StepLabel) : (s.accept op first).trace = s.trace := rfl
@[simp] theorem State.accept_cmds (op : BitVec 4) (first : StepLabel) : (s.accept op first).cmds = s.cmds := rfl
@[simp] theorem State.accept_envScript (op : BitVec 4) (first : StepLabel) : (s.accept op first).envScript = s.envScript := rfl
@[simp] theorem State.accept_configured (op : BitVec 4) (first : StepLabel) : (s.accept op first).configured = s.configured := rfl
@[simp] theorem State.accept_runNo (op : BitVec 4) (first : StepLabel) : (s.accept op first).runNo = s.runNo := rfl

@[simp] theorem State.complete_sdaPin (v : Byte) : (s.complete v).sdaPin = s.sdaPin := rfl
@[simp] theorem State.complete_sclPin (v : Byte) : (s.complete v).sclPin = s.sclPin := rfl
@[simp] theorem State.complete_halfCycleUs (v : Byte) : (s.complete v).halfCycleUs = s.halfCycleUs := rfl
@[simp] theorem State.complete_lastSda (v : Byte) : (s.complete v).lastSda = s.lastSda := rfl
@[simp] theorem State.complete_lastScl (v : Byte) : (s.complete v).lastScl = s.lastScl := rfl
@[simp] theorem State.complete_stretchPending (v : Byte) : (s.complete v).stretchPending = s.stretchPending := rfl
@[simp] theorem State.complete_res (v : Byte) : (s.complete v).res = v := rfl
@[simp] theorem State.complete_busy (v : Byte) : (s.complete v).busy = false := rfl
@[simp] theorem State.complete_op (v : Byte) : (s.complete v).op = s.op := rfl
@[simp] theorem State.complete_step (v : Byte) : (s.complete v).step = .fin := rfl
@[simp] theorem State.complete_bit (v : Byte) : (s.complete v).bit = s.bit := rfl
@[simp] theorem State.complete_shreg (v : Byte) : (s.complete v).shreg = s.shreg := rfl
@[simp] theorem State.complete_lvl (v : Byte) : (s.complete v).lvl = s.lvl := rfl
@[simp] theorem State.complete_skip (v : Byte) : (s.complete v).skip = s.skip := rfl
@[simp] theorem State.complete_dly (v : Byte) : (s.complete v).dly = s.dly := rfl
@[simp] theorem State.complete_presc (v : Byte) : (s.complete v).presc = s.presc := rfl
@[simp] theorem State.complete_smp (v : Byte) : (s.complete v).smp = s.smp := rfl
@[simp] theorem State.complete_rspValid (v : Byte) : (s.complete v).rspValid = true := rfl
@[simp] theorem State.complete_odCfg (v : Byte) : (s.complete v).odCfg = false := rfl
@[simp] theorem State.complete_trace (v : Byte) : (s.complete v).trace = s.trace := rfl
@[simp] theorem State.complete_cmds (v : Byte) : (s.complete v).cmds = s.cmds := rfl
@[simp] theorem State.complete_envScript (v : Byte) : (s.complete v).envScript = s.envScript := rfl
@[simp] theorem State.complete_configured (v : Byte) : (s.complete v).configured = s.configured := rfl
@[simp] theorem State.complete_runNo (v : Byte) : (s.complete v).runNo = s.runNo := rfl

@[simp] theorem State.idle_sdaPin : (s.idle).sdaPin = s.sdaPin := rfl
@[simp] theorem State.idle_sclPin : (s.idle).sclPin = s.sclPin := rfl
@[simp] theorem State.idle_halfCycleUs : (s.idle).halfCycleUs = s.halfCycleUs := rfl
@[simp] theorem State.idle_lastSda : (s.idle).lastSda = s.lastSda := rfl
@[simp] theorem State.idle_lastScl : (s.idle).lastScl = s.lastScl := rfl
@[simp] theorem State.idle_stretchPending : (s.idle).stretchPending = s.stretchPending := rfl
@[simp] theorem State.idle_res : (s.idle).res = s.res := rfl
@[simp] theorem State.idle_busy : (s.idle).busy = s.busy := rfl
@[simp] theorem State.idle_op : (s.idle).op = s.op := rfl
@[simp] theorem State.idle_step : (s.idle).step = s.step := rfl
@[simp] theorem State.idle_bit : (s.idle).bit = s.bit := rfl
@[simp] theorem State.idle_shreg : (s.idle).shreg = s.shreg := rfl
@[simp] theorem State.idle_lvl : (s.idle).lvl = s.lvl := rfl
@[simp] theorem State.idle_skip : (s.idle).skip = s.skip := rfl
@[simp] theorem State.idle_dly : (s.idle).dly = s.dly := rfl
@[simp] theorem State.idle_presc : (s.idle).presc = s.presc := rfl
@[simp] theorem State.idle_smp : (s.idle).smp = s.smp := rfl
@[simp] theorem State.idle_rspValid : (s.idle).rspValid = false := rfl
@[simp] theorem State.idle_odCfg : (s.idle).odCfg = false := rfl
@[simp] theorem State.idle_trace : (s.idle).trace = s.trace := rfl
@[simp] theorem State.idle_cmds : (s.idle).cmds = s.cmds := rfl
@[simp] theorem State.idle_envScript : (s.idle).envScript = s.envScript := rfl
@[simp] theorem State.idle_configured : (s.idle).configured = s.configured := rfl
@[simp] theorem State.idle_runNo : (s.idle).runNo = s.runNo := rfl

@[simp] theorem State.clearFlag_sdaPin : (s.clearFlag).sdaPin = s.sdaPin := rfl
@[simp] theorem State.clearFlag_sclPin : (s.clearFlag).sclPin = s.sclPin := rfl
@[simp] theorem State.clearFlag_halfCycleUs : (s.clearFlag).halfCycleUs = s.halfCycleUs := rfl
@[simp] theorem State.clearFlag_lastSda : (s.clearFlag).lastSda = s.lastSda := rfl
@[simp] theorem State.clearFlag_lastScl : (s.clearFlag).lastScl = s.lastScl := rfl
@[simp] theorem State.clearFlag_stretchPending : (s.clearFlag).stretchPending = false := rfl
@[simp] theorem State.clearFlag_res : (s.clearFlag).res = s.res := rfl
@[simp] theorem State.clearFlag_busy : (s.clearFlag).busy = s.busy := rfl
@[simp] theorem State.clearFlag_op : (s.clearFlag).op = s.op := rfl
@[simp] theorem State.clearFlag_step : (s.clearFlag).step = s.step := rfl
@[simp] theorem State.clearFlag_bit : (s.clearFlag).bit = s.bit := rfl
@[simp] theorem State.clearFlag_shreg : (s.clearFlag).shreg = s.shreg := rfl
@[simp] theorem State.clearFlag_lvl : (s.clearFlag).lvl = s.lvl := rfl
@[simp] theorem State.clearFlag_skip : (s.clearFlag).skip = s.skip := rfl
@[simp] theorem State.clearFlag_dly : (s.clearFlag).dly = s.dly := rfl
@[simp] theorem State.clearFlag_presc : (s.clearFlag).presc = s.presc := rfl
@[simp] theorem State.clearFlag_smp : (s.clearFlag).smp = s.smp := rfl
@[simp] theorem State.clearFlag_rspValid : (s.clearFlag).rspValid = s.rspValid := rfl
@[simp] theorem State.clearFlag_odCfg : (s.clearFlag).odCfg = s.odCfg := rfl
@[simp] theorem State.clearFlag_trace : (s.clearFlag).trace = s.trace := rfl
@[simp] theorem State.clearFlag_cmds : (s.clearFlag).cmds = s.cmds := rfl
@[simp] theorem State.clearFlag_envScript : (s.clearFlag).envScript = s.envScript := rfl
@[simp] theorem State.clearFlag_configured : (s.clearFlag).configured = s.configured := rfl
@[simp] theorem State.clearFlag_runNo : (s.clearFlag).runNo = s.runNo := rfl

@[simp] theorem State.consumeFlag_sdaPin : (s.consumeFlag).sdaPin = s.sdaPin := rfl
@[simp] theorem State.consumeFlag_sclPin : (s.consumeFlag).sclPin = s.sclPin := rfl
@[simp] theorem State.consumeFlag_halfCycleUs : (s.consumeFlag).halfCycleUs = s.halfCycleUs := rfl
@[simp] theorem State.consumeFlag_lastSda : (s.consumeFlag).lastSda = s.lastSda := rfl
@[simp] theorem State.consumeFlag_lastScl : (s.consumeFlag).lastScl = s.lastScl := rfl
@[simp] theorem State.consumeFlag_stretchPending : (s.consumeFlag).stretchPending = false := rfl
@[simp] theorem State.consumeFlag_res : (s.consumeFlag).res = s.res := rfl
@[simp] theorem State.consumeFlag_busy : (s.consumeFlag).busy = s.busy := rfl
@[simp] theorem State.consumeFlag_op : (s.consumeFlag).op = s.op := rfl
@[simp] theorem State.consumeFlag_step : (s.consumeFlag).step = s.step := rfl
@[simp] theorem State.consumeFlag_bit : (s.consumeFlag).bit = s.bit := rfl
@[simp] theorem State.consumeFlag_shreg : (s.consumeFlag).shreg = s.shreg := rfl
@[simp] theorem State.consumeFlag_lvl : (s.consumeFlag).lvl = s.lvl := rfl
@[simp] theorem State.consumeFlag_skip : (s.consumeFlag).skip = s.stretchPending := rfl
@[simp] theorem State.consumeFlag_dly : (s.consumeFlag).dly = s.dly := rfl
@[simp] theorem State.consumeFlag_presc : (s.consumeFlag).presc = s.presc := rfl
@[simp] theorem State.consumeFlag_smp : (s.consumeFlag).smp = s.smp := rfl
@[simp] theorem State.consumeFlag_rspValid : (s.consumeFlag).rspValid = s.rspValid := rfl
@[simp] theorem State.consumeFlag_odCfg : (s.consumeFlag).odCfg = s.odCfg := rfl
@[simp] theorem State.consumeFlag_trace : (s.consumeFlag).trace = s.trace := rfl
@[simp] theorem State.consumeFlag_cmds : (s.consumeFlag).cmds = s.cmds := rfl
@[simp] theorem State.consumeFlag_envScript : (s.consumeFlag).envScript = s.envScript := rfl
@[simp] theorem State.consumeFlag_configured : (s.consumeFlag).configured = s.configured := rfl
@[simp] theorem State.consumeFlag_runNo : (s.consumeFlag).runNo = s.runNo := rfl

@[simp] theorem State.setFlag_sdaPin : (s.setFlag).sdaPin = s.sdaPin := rfl
@[simp] theorem State.setFlag_sclPin : (s.setFlag).sclPin = s.sclPin := rfl
@[simp] theorem State.setFlag_halfCycleUs : (s.setFlag).halfCycleUs = s.halfCycleUs := rfl
@[simp] theorem State.setFlag_lastSda : (s.setFlag).lastSda = s.lastSda := rfl
@[simp] theorem State.setFlag_lastScl : (s.setFlag).lastScl = s.lastScl := rfl
@[simp] theorem State.setFlag_stretchPending : (s.setFlag).stretchPending = true := rfl
@[simp] theorem State.setFlag_res : (s.setFlag).res = s.res := rfl
@[simp] theorem State.setFlag_busy : (s.setFlag).busy = s.busy := rfl
@[simp] theorem State.setFlag_op : (s.setFlag).op = s.op := rfl
@[simp] theorem State.setFlag_step : (s.setFlag).step = s.step := rfl
@[simp] theorem State.setFlag_bit : (s.setFlag).bit = s.bit := rfl
@[simp] theorem State.setFlag_shreg : (s.setFlag).shreg = s.shreg := rfl
@[simp] theorem State.setFlag_lvl : (s.setFlag).lvl = s.lvl := rfl
@[simp] theorem State.setFlag_skip : (s.setFlag).skip = s.skip := rfl
@[simp] theorem State.setFlag_dly : (s.setFlag).dly = s.dly := rfl
@[simp] theorem State.setFlag_presc : (s.setFlag).presc = s.presc := rfl
@[simp] theorem State.setFlag_smp : (s.setFlag).smp = s.smp := rfl
@[simp] theorem State.setFlag_rspValid : (s.setFlag).rspValid = s.rspValid := rfl
@[simp] theorem State.setFlag_odCfg : (s.setFlag).odCfg = s.odCfg := rfl
@[simp] theorem State.setFlag_trace : (s.setFlag).trace = s.trace := rfl
@[simp] theorem State.setFlag_cmds : (s.setFlag).cmds = s.cmds := rfl
@[simp] theorem State.setFlag_envScript : (s.setFlag).envScript = s.envScript := rfl
@[simp] theorem State.setFlag_configured : (s.setFlag).configured = s.configured := rfl
@[simp] theorem State.setFlag_runNo : (s.setFlag).runNo = s.runNo := rfl

@[simp] theorem State.acceptPlain_sdaPin (op : BitVec 4) (first : StepLabel) : (s.acceptPlain op first).sdaPin = s.sdaPin := rfl
@[simp] theorem State.acceptPlain_sclPin (op : BitVec 4) (first : StepLabel) : (s.acceptPlain op first).sclPin = s.sclPin := rfl
@[simp] theorem State.acceptPlain_halfCycleUs (op : BitVec 4) (first : StepLabel) : (s.acceptPlain op first).halfCycleUs = s.halfCycleUs := rfl
@[simp] theorem State.acceptPlain_lastSda (op : BitVec 4) (first : StepLabel) : (s.acceptPlain op first).lastSda = s.lastSda := rfl
@[simp] theorem State.acceptPlain_lastScl (op : BitVec 4) (first : StepLabel) : (s.acceptPlain op first).lastScl = s.lastScl := rfl
@[simp] theorem State.acceptPlain_stretchPending (op : BitVec 4) (first : StepLabel) : (s.acceptPlain op first).stretchPending = false := rfl
@[simp] theorem State.acceptPlain_res (op : BitVec 4) (first : StepLabel) : (s.acceptPlain op first).res = s.res := rfl
@[simp] theorem State.acceptPlain_busy (op : BitVec 4) (first : StepLabel) : (s.acceptPlain op first).busy = true := rfl
@[simp] theorem State.acceptPlain_op (op : BitVec 4) (first : StepLabel) : (s.acceptPlain op first).op = op := rfl
@[simp] theorem State.acceptPlain_step (op : BitVec 4) (first : StepLabel) : (s.acceptPlain op first).step = first := rfl
@[simp] theorem State.acceptPlain_bit (op : BitVec 4) (first : StepLabel) : (s.acceptPlain op first).bit = s.bit := rfl
@[simp] theorem State.acceptPlain_shreg (op : BitVec 4) (first : StepLabel) : (s.acceptPlain op first).shreg = s.shreg := rfl
@[simp] theorem State.acceptPlain_lvl (op : BitVec 4) (first : StepLabel) : (s.acceptPlain op first).lvl = s.lvl := rfl
@[simp] theorem State.acceptPlain_skip (op : BitVec 4) (first : StepLabel) : (s.acceptPlain op first).skip = s.skip := rfl
@[simp] theorem State.acceptPlain_dly (op : BitVec 4) (first : StepLabel) : (s.acceptPlain op first).dly = s.dly := rfl
@[simp] theorem State.acceptPlain_presc (op : BitVec 4) (first : StepLabel) : (s.acceptPlain op first).presc = s.presc := rfl
@[simp] theorem State.acceptPlain_smp (op : BitVec 4) (first : StepLabel) : (s.acceptPlain op first).smp = s.smp := rfl
@[simp] theorem State.acceptPlain_rspValid (op : BitVec 4) (first : StepLabel) : (s.acceptPlain op first).rspValid = false := rfl
@[simp] theorem State.acceptPlain_odCfg (op : BitVec 4) (first : StepLabel) : (s.acceptPlain op first).odCfg = false := rfl
@[simp] theorem State.acceptPlain_trace (op : BitVec 4) (first : StepLabel) : (s.acceptPlain op first).trace = s.trace := rfl
@[simp] theorem State.acceptPlain_cmds (op : BitVec 4) (first : StepLabel) : (s.acceptPlain op first).cmds = s.cmds := rfl
@[simp] theorem State.acceptPlain_envScript (op : BitVec 4) (first : StepLabel) : (s.acceptPlain op first).envScript = s.envScript := rfl
@[simp] theorem State.acceptPlain_configured (op : BitVec 4) (first : StepLabel) : (s.acceptPlain op first).configured = s.configured := rfl
@[simp] theorem State.acceptPlain_runNo (op : BitVec 4) (first : StepLabel) : (s.acceptPlain op first).runNo = s.runNo := rfl

@[simp] theorem State.acceptBegin_sdaPin (sda scl : Byte) (hc : HalfCycle) : (s.acceptBegin sda scl hc).sdaPin = sda := rfl
@[simp] theorem State.acceptBegin_sclPin (sda scl : Byte) (hc : HalfCycle) : (s.acceptBegin sda scl hc).sclPin = scl := rfl
@[simp] theorem State.acceptBegin_halfCycleUs (sda scl : Byte) (hc : HalfCycle) : (s.acceptBegin sda scl hc).halfCycleUs = hc := rfl
@[simp] theorem State.acceptBegin_lastSda (sda scl : Byte) (hc : HalfCycle) : (s.acceptBegin sda scl hc).lastSda = s.lastSda := rfl
@[simp] theorem State.acceptBegin_lastScl (sda scl : Byte) (hc : HalfCycle) : (s.acceptBegin sda scl hc).lastScl = s.lastScl := rfl
@[simp] theorem State.acceptBegin_stretchPending (sda scl : Byte) (hc : HalfCycle) : (s.acceptBegin sda scl hc).stretchPending = false := rfl
@[simp] theorem State.acceptBegin_res (sda scl : Byte) (hc : HalfCycle) : (s.acceptBegin sda scl hc).res = s.res := rfl
@[simp] theorem State.acceptBegin_busy (sda scl : Byte) (hc : HalfCycle) : (s.acceptBegin sda scl hc).busy = true := rfl
@[simp] theorem State.acceptBegin_op (sda scl : Byte) (hc : HalfCycle) : (s.acceptBegin sda scl hc).op = opBEGIN := rfl
@[simp] theorem State.acceptBegin_step (sda scl : Byte) (hc : HalfCycle) : (s.acceptBegin sda scl hc).step = .B0 := rfl
@[simp] theorem State.acceptBegin_bit (sda scl : Byte) (hc : HalfCycle) : (s.acceptBegin sda scl hc).bit = s.bit := rfl
@[simp] theorem State.acceptBegin_shreg (sda scl : Byte) (hc : HalfCycle) : (s.acceptBegin sda scl hc).shreg = s.shreg := rfl
@[simp] theorem State.acceptBegin_lvl (sda scl : Byte) (hc : HalfCycle) : (s.acceptBegin sda scl hc).lvl = s.lvl := rfl
@[simp] theorem State.acceptBegin_skip (sda scl : Byte) (hc : HalfCycle) : (s.acceptBegin sda scl hc).skip = s.skip := rfl
@[simp] theorem State.acceptBegin_dly (sda scl : Byte) (hc : HalfCycle) : (s.acceptBegin sda scl hc).dly = s.dly := rfl
@[simp] theorem State.acceptBegin_presc (sda scl : Byte) (hc : HalfCycle) : (s.acceptBegin sda scl hc).presc = s.presc := rfl
@[simp] theorem State.acceptBegin_smp (sda scl : Byte) (hc : HalfCycle) : (s.acceptBegin sda scl hc).smp = s.smp := rfl
@[simp] theorem State.acceptBegin_rspValid (sda scl : Byte) (hc : HalfCycle) : (s.acceptBegin sda scl hc).rspValid = false := rfl
@[simp] theorem State.acceptBegin_odCfg (sda scl : Byte) (hc : HalfCycle) : (s.acceptBegin sda scl hc).odCfg = false := rfl
@[simp] theorem State.acceptBegin_trace (sda scl : Byte) (hc : HalfCycle) : (s.acceptBegin sda scl hc).trace = s.trace := rfl
@[simp] theorem State.acceptBegin_cmds (sda scl : Byte) (hc : HalfCycle) : (s.acceptBegin sda scl hc).cmds = s.cmds := rfl
@[simp] theorem State.acceptBegin_envScript (sda scl : Byte) (hc : HalfCycle) : (s.acceptBegin sda scl hc).envScript = s.envScript := rfl
@[simp] theorem State.acceptBegin_configured (sda scl : Byte) (hc : HalfCycle) : (s.acceptBegin sda scl hc).configured = true := rfl
@[simp] theorem State.acceptBegin_runNo (sda scl : Byte) (hc : HalfCycle) : (s.acceptBegin sda scl hc).runNo = s.runNo := rfl

@[simp] theorem State.acceptWrb_sdaPin (data : Byte) : (s.acceptWrb data).sdaPin = s.sdaPin := rfl
@[simp] theorem State.acceptWrb_sclPin (data : Byte) : (s.acceptWrb data).sclPin = s.sclPin := rfl
@[simp] theorem State.acceptWrb_halfCycleUs (data : Byte) : (s.acceptWrb data).halfCycleUs = s.halfCycleUs := rfl
@[simp] theorem State.acceptWrb_lastSda (data : Byte) : (s.acceptWrb data).lastSda = s.lastSda := rfl
@[simp] theorem State.acceptWrb_lastScl (data : Byte) : (s.acceptWrb data).lastScl = s.lastScl := rfl
@[simp] theorem State.acceptWrb_stretchPending (data : Byte) : (s.acceptWrb data).stretchPending = false := rfl
@[simp] theorem State.acceptWrb_res (data : Byte) : (s.acceptWrb data).res = s.res := rfl
@[simp] theorem State.acceptWrb_busy (data : Byte) : (s.acceptWrb data).busy = true := rfl
@[simp] theorem State.acceptWrb_op (data : Byte) : (s.acceptWrb data).op = opWRB := rfl
@[simp] theorem State.acceptWrb_step (data : Byte) : (s.acceptWrb data).step = .W0 := rfl
@[simp] theorem State.acceptWrb_bit (data : Byte) : (s.acceptWrb data).bit = 7#3 := rfl
@[simp] theorem State.acceptWrb_shreg (data : Byte) : (s.acceptWrb data).shreg = data := rfl
@[simp] theorem State.acceptWrb_lvl (data : Byte) : (s.acceptWrb data).lvl = s.lvl := rfl
@[simp] theorem State.acceptWrb_skip (data : Byte) : (s.acceptWrb data).skip = s.skip := rfl
@[simp] theorem State.acceptWrb_dly (data : Byte) : (s.acceptWrb data).dly = s.dly := rfl
@[simp] theorem State.acceptWrb_presc (data : Byte) : (s.acceptWrb data).presc = s.presc := rfl
@[simp] theorem State.acceptWrb_smp (data : Byte) : (s.acceptWrb data).smp = s.smp := rfl
@[simp] theorem State.acceptWrb_rspValid (data : Byte) : (s.acceptWrb data).rspValid = false := rfl
@[simp] theorem State.acceptWrb_odCfg (data : Byte) : (s.acceptWrb data).odCfg = false := rfl
@[simp] theorem State.acceptWrb_trace (data : Byte) : (s.acceptWrb data).trace = s.trace := rfl
@[simp] theorem State.acceptWrb_cmds (data : Byte) : (s.acceptWrb data).cmds = s.cmds := rfl
@[simp] theorem State.acceptWrb_envScript (data : Byte) : (s.acceptWrb data).envScript = s.envScript := rfl
@[simp] theorem State.acceptWrb_configured (data : Byte) : (s.acceptWrb data).configured = s.configured := rfl
@[simp] theorem State.acceptWrb_runNo (data : Byte) : (s.acceptWrb data).runNo = s.runNo := rfl

@[simp] theorem State.acceptRdb_sdaPin : (s.acceptRdb).sdaPin = s.sdaPin := rfl
@[simp] theorem State.acceptRdb_sclPin : (s.acceptRdb).sclPin = s.sclPin := rfl
@[simp] theorem State.acceptRdb_halfCycleUs : (s.acceptRdb).halfCycleUs = s.halfCycleUs := rfl
@[simp] theorem State.acceptRdb_lastSda : (s.acceptRdb).lastSda = s.lastSda := rfl
@[simp] theorem State.acceptRdb_lastScl : (s.acceptRdb).lastScl = s.lastScl := rfl
@[simp] theorem State.acceptRdb_stretchPending : (s.acceptRdb).stretchPending = false := rfl
@[simp] theorem State.acceptRdb_res : (s.acceptRdb).res = s.res := rfl
@[simp] theorem State.acceptRdb_busy : (s.acceptRdb).busy = true := rfl
@[simp] theorem State.acceptRdb_op : (s.acceptRdb).op = opRDB := rfl
@[simp] theorem State.acceptRdb_step : (s.acceptRdb).step = (if s.stretchPending then .Ra else .R0) := rfl
@[simp] theorem State.acceptRdb_bit : (s.acceptRdb).bit = 7#3 := rfl
@[simp] theorem State.acceptRdb_shreg : (s.acceptRdb).shreg = 0x00#8 := rfl
@[simp] theorem State.acceptRdb_lvl : (s.acceptRdb).lvl = s.lvl := rfl
@[simp] theorem State.acceptRdb_skip : (s.acceptRdb).skip = s.stretchPending := rfl
@[simp] theorem State.acceptRdb_dly : (s.acceptRdb).dly = s.dly := rfl
@[simp] theorem State.acceptRdb_presc : (s.acceptRdb).presc = s.presc := rfl
@[simp] theorem State.acceptRdb_smp : (s.acceptRdb).smp = s.smp := rfl
@[simp] theorem State.acceptRdb_rspValid : (s.acceptRdb).rspValid = false := rfl
@[simp] theorem State.acceptRdb_odCfg : (s.acceptRdb).odCfg = false := rfl
@[simp] theorem State.acceptRdb_trace : (s.acceptRdb).trace = s.trace := rfl
@[simp] theorem State.acceptRdb_cmds : (s.acceptRdb).cmds = s.cmds := rfl
@[simp] theorem State.acceptRdb_envScript : (s.acceptRdb).envScript = s.envScript := rfl
@[simp] theorem State.acceptRdb_configured : (s.acceptRdb).configured = s.configured := rfl
@[simp] theorem State.acceptRdb_runNo : (s.acceptRdb).runNo = s.runNo := rfl

@[simp] theorem State.acceptWackl_sdaPin (level : Level) : (s.acceptWackl level).sdaPin = s.sdaPin := rfl
@[simp] theorem State.acceptWackl_sclPin (level : Level) : (s.acceptWackl level).sclPin = s.sclPin := rfl
@[simp] theorem State.acceptWackl_halfCycleUs (level : Level) : (s.acceptWackl level).halfCycleUs = s.halfCycleUs := rfl
@[simp] theorem State.acceptWackl_lastSda (level : Level) : (s.acceptWackl level).lastSda = s.lastSda := rfl
@[simp] theorem State.acceptWackl_lastScl (level : Level) : (s.acceptWackl level).lastScl = s.lastScl := rfl
@[simp] theorem State.acceptWackl_stretchPending (level : Level) : (s.acceptWackl level).stretchPending = false := rfl
@[simp] theorem State.acceptWackl_res (level : Level) : (s.acceptWackl level).res = s.res := rfl
@[simp] theorem State.acceptWackl_busy (level : Level) : (s.acceptWackl level).busy = true := rfl
@[simp] theorem State.acceptWackl_op (level : Level) : (s.acceptWackl level).op = opWACKL := rfl
@[simp] theorem State.acceptWackl_step (level : Level) : (s.acceptWackl level).step = .K0 := rfl
@[simp] theorem State.acceptWackl_bit (level : Level) : (s.acceptWackl level).bit = s.bit := rfl
@[simp] theorem State.acceptWackl_shreg (level : Level) : (s.acceptWackl level).shreg = s.shreg := rfl
@[simp] theorem State.acceptWackl_lvl (level : Level) : (s.acceptWackl level).lvl = level := rfl
@[simp] theorem State.acceptWackl_skip (level : Level) : (s.acceptWackl level).skip = s.skip := rfl
@[simp] theorem State.acceptWackl_dly (level : Level) : (s.acceptWackl level).dly = s.dly := rfl
@[simp] theorem State.acceptWackl_presc (level : Level) : (s.acceptWackl level).presc = s.presc := rfl
@[simp] theorem State.acceptWackl_smp (level : Level) : (s.acceptWackl level).smp = s.smp := rfl
@[simp] theorem State.acceptWackl_rspValid (level : Level) : (s.acceptWackl level).rspValid = false := rfl
@[simp] theorem State.acceptWackl_odCfg (level : Level) : (s.acceptWackl level).odCfg = false := rfl
@[simp] theorem State.acceptWackl_trace (level : Level) : (s.acceptWackl level).trace = s.trace := rfl
@[simp] theorem State.acceptWackl_cmds (level : Level) : (s.acceptWackl level).cmds = s.cmds := rfl
@[simp] theorem State.acceptWackl_envScript (level : Level) : (s.acceptWackl level).envScript = s.envScript := rfl
@[simp] theorem State.acceptWackl_configured (level : Level) : (s.acceptWackl level).configured = s.configured := rfl
@[simp] theorem State.acceptWackl_runNo (level : Level) : (s.acceptWackl level).runNo = s.runNo := rfl

@[simp] theorem State.acceptRds_sdaPin : (s.acceptRds).sdaPin = s.sdaPin := rfl
@[simp] theorem State.acceptRds_sclPin : (s.acceptRds).sclPin = s.sclPin := rfl
@[simp] theorem State.acceptRds_halfCycleUs : (s.acceptRds).halfCycleUs = s.halfCycleUs := rfl
@[simp] theorem State.acceptRds_lastSda : (s.acceptRds).lastSda = s.lastSda := rfl
@[simp] theorem State.acceptRds_lastScl : (s.acceptRds).lastScl = s.lastScl := rfl
@[simp] theorem State.acceptRds_stretchPending : (s.acceptRds).stretchPending = s.stretchPending := rfl
@[simp] theorem State.acceptRds_res : (s.acceptRds).res = s.res := rfl
@[simp] theorem State.acceptRds_busy : (s.acceptRds).busy = true := rfl
@[simp] theorem State.acceptRds_op : (s.acceptRds).op = opRDS := rfl
@[simp] theorem State.acceptRds_step : (s.acceptRds).step = .T1 := rfl
@[simp] theorem State.acceptRds_bit : (s.acceptRds).bit = s.bit := rfl
@[simp] theorem State.acceptRds_shreg : (s.acceptRds).shreg = s.shreg := rfl
@[simp] theorem State.acceptRds_lvl : (s.acceptRds).lvl = s.lvl := rfl
@[simp] theorem State.acceptRds_skip : (s.acceptRds).skip = s.skip := rfl
@[simp] theorem State.acceptRds_dly : (s.acceptRds).dly = s.dly := rfl
@[simp] theorem State.acceptRds_presc : (s.acceptRds).presc = s.presc := rfl
@[simp] theorem State.acceptRds_smp : (s.acceptRds).smp = s.smp := rfl
@[simp] theorem State.acceptRds_rspValid : (s.acceptRds).rspValid = false := rfl
@[simp] theorem State.acceptRds_odCfg : (s.acceptRds).odCfg = false := rfl
@[simp] theorem State.acceptRds_trace : (s.acceptRds).trace = s.trace := rfl
@[simp] theorem State.acceptRds_cmds : (s.acceptRds).cmds = s.cmds := rfl
@[simp] theorem State.acceptRds_envScript : (s.acceptRds).envScript = s.envScript := rfl
@[simp] theorem State.acceptRds_configured : (s.acceptRds).configured = s.configured := rfl
@[simp] theorem State.acceptRds_runNo : (s.acceptRds).runNo = s.runNo := rfl

@[simp] theorem State.applyReset_sdaPin : (s.applyReset).sdaPin = 0x00#8 := rfl
@[simp] theorem State.applyReset_sclPin : (s.applyReset).sclPin = 0x00#8 := rfl
@[simp] theorem State.applyReset_halfCycleUs : (s.applyReset).halfCycleUs = 0#12 := rfl
@[simp] theorem State.applyReset_lastSda : (s.applyReset).lastSda = HIGH := rfl
@[simp] theorem State.applyReset_lastScl : (s.applyReset).lastScl = HIGH := rfl
@[simp] theorem State.applyReset_stretchPending : (s.applyReset).stretchPending = false := rfl
@[simp] theorem State.applyReset_res : (s.applyReset).res = 0x00#8 := rfl
@[simp] theorem State.applyReset_busy : (s.applyReset).busy = false := rfl
@[simp] theorem State.applyReset_op : (s.applyReset).op = 0x0#4 := rfl
@[simp] theorem State.applyReset_step : (s.applyReset).step = .fin := rfl
@[simp] theorem State.applyReset_bit : (s.applyReset).bit = 0#3 := rfl
@[simp] theorem State.applyReset_shreg : (s.applyReset).shreg = 0x00#8 := rfl
@[simp] theorem State.applyReset_lvl : (s.applyReset).lvl = LOW := rfl
@[simp] theorem State.applyReset_skip : (s.applyReset).skip = false := rfl
@[simp] theorem State.applyReset_dly : (s.applyReset).dly = 0#12 := rfl
@[simp] theorem State.applyReset_presc : (s.applyReset).presc = 0 := rfl
@[simp] theorem State.applyReset_smp : (s.applyReset).smp = LOW := rfl
@[simp] theorem State.applyReset_rspValid : (s.applyReset).rspValid = false := rfl
@[simp] theorem State.applyReset_odCfg : (s.applyReset).odCfg = false := rfl
@[simp] theorem State.applyReset_trace : (s.applyReset).trace = [] := rfl
@[simp] theorem State.applyReset_cmds : (s.applyReset).cmds = s.cmds := rfl
@[simp] theorem State.applyReset_envScript : (s.applyReset).envScript = s.envScript := rfl
@[simp] theorem State.applyReset_configured : (s.applyReset).configured = false := rfl
@[simp] theorem State.applyReset_runNo : (s.applyReset).runNo = s.runNo + 1 := rfl

end Sys2Proof.Machine
end

