-- ==== Sys2Proof/Laws/Clock.lean ====
section
/-! SUPPORT. What one clock edge, one reset and one step do. -/

namespace Sys2Proof.Machine

/-- Moving the position changes nothing but the position (10_state.md R23). -/
theorem State.advance_cases (s : State) :
    ∃ b l, s.advance = { s with bit := b, step := l } := by
  simp only [State.advance]
  split
  · exact ⟨_, _, rfl⟩
  · exact ⟨s.bit, _, rfl⟩

/-- With `busy = 1` block and host together do one edge of the operation in progress (40_sequencer.md R82). -/
theorem State.systemEdge_busy (s : State) (h : s.busy = true) : s.systemEdge = s.busyEdge Config.clkPerUs := by
  cases hc : s.cmds <;>
    simp [State.systemEdge, State.hostTakes, State.hostInputs, State.edge, State.edgeAt, h, hc]

/-- An edge with `busy = 1` is one of three: a cycle of a wait, a row of the table, or the completion. -/
theorem State.busyEdge_cases (clk : Nat) (s : State) :
    (s.dly ≠ 0#12 ∧ s.busyEdge clk = s.idle.countEdge clk) ∨
    (∃ r, s.dly = 0#12 ∧ s.currentRow = some r ∧ s.busyEdge clk = s.idle.rowEdge clk r) ∨
    (s.dly = 0#12 ∧ s.currentRow = none ∧ s.busyEdge clk = s.idle.complete s.result) := by
  by_cases hd : s.dly = 0#12
  · have hrow : s.idle.currentRow = s.currentRow := rfl
    cases hr : s.currentRow with
    | none => exact .inr (.inr ⟨hd, rfl, by simp only [State.busyEdge, State.idle_dly, hd, hrow, hr, if_true]; rfl⟩)
    | some r => exact .inr (.inl ⟨r, hd, rfl, by simp [State.busyEdge, hd, hrow, hr]⟩)
  · exact .inl ⟨hd, by simp [State.busyEdge, hd]⟩

/-- `rst_n = 0` does the same with a clock edge in it and without (70_reset_and_hazards.md R181). -/
theorem State.edge_resetLow (s : State) (inp : Inputs) (h : inp.rstN = false) :
    s.edge inp = s.stimulus .resetLow := by
  simp [State.edge, State.edgeAt, State.stimulus, h]

/-- When the model refuses nothing: a well-formed command, and a BEGIN or a configured state. -/
theorem State.refuses_eq_none_iff (s : State) (i : Instr) :
    s.refuses i = none ↔ i.wellFormed = true ∧ (s.configured = true ∨ mayComeFirst i = true) := by
  cases h : i.wellFormed <;> cases h' : s.configured <;> cases h'' : mayComeFirst i <;>
    simp [State.refuses, h, h', h'']

/-- Everything one step can do. -/
theorem step_cases (s : State) :
    (s.busy = true ∧ step s = .next (s.busyEdge Config.clkPerUs)) ∨
    (s.busy = false ∧ s.cmds = [] ∧ step s = .next s.idle) ∨
    (∃ w rest i, s.busy = false ∧ s.cmds = w :: rest ∧ decode w = .ok i ∧ s.refuses i = none ∧
      step s = exec i { s with cmds := rest }) ∨
    (∃ w rest i r, s.busy = false ∧ s.cmds = w :: rest ∧ decode w = .ok i ∧ s.refuses i = some r ∧
      step s = .refused r) ∨
    (∃ w rest e, s.busy = false ∧ s.cmds = w :: rest ∧ decode w = .error e ∧
      step s = .refused (.reservedWord w e)) := by
  cases hb : s.busy with
  | true => exact .inl ⟨rfl, by simp [step, hb]⟩
  | false =>
    refine .inr ?_
    cases hc : s.cmds with
    | nil => exact .inl ⟨rfl, rfl, by simp [step, hb, hc]⟩
    | cons w rest =>
      refine .inr ?_
      cases hd : decode w with
      | error e => exact .inr (.inr ⟨w, rest, e, rfl, rfl, hd, by simp [step, hb, hc, hd]⟩)
      | ok i =>
        cases hr : s.refuses i with
        | none => exact .inl ⟨w, rest, i, rfl, rfl, hd, hr, by simp [step, hb, hc, hd, hr]⟩
        | some r => exact .inr (.inl ⟨w, rest, i, r, rfl, rfl, hd, hr, by simp [step, hb, hc, hd, hr]⟩)

/-- What an edge with `busy = 1` leaves alone: what acceptance latched for the whole operation, and what is not the
block's (40_sequencer.md R84, R86). -/
theorem State.busyEdge_frame (clk : Nat) (s : State) :
    let t := s.busyEdge clk
    t.sdaPin = s.sdaPin ∧ t.sclPin = s.sclPin ∧ t.halfCycleUs = s.halfCycleUs ∧ t.configured = s.configured ∧
    t.op = s.op ∧ t.lvl = s.lvl ∧ t.skip = s.skip ∧ t.cmds = s.cmds ∧ t.runNo = s.runNo := by
  have adv (u : State) : u.advance.sdaPin = u.sdaPin ∧ u.advance.sclPin = u.sclPin ∧
      u.advance.halfCycleUs = u.halfCycleUs ∧ u.advance.configured = u.configured ∧ u.advance.op = u.op ∧
      u.advance.lvl = u.lvl ∧ u.advance.skip = u.skip ∧ u.advance.cmds = u.cmds ∧ u.advance.runNo = u.runNo := by
    obtain ⟨b, l, h⟩ := u.advance_cases
    simp [h]
  intro t
  obtain ⟨_, e⟩ | ⟨r, _, _, e⟩ | ⟨_, _, e⟩ := s.busyEdge_cases clk <;> simp only [t, e]
  · simp only [State.countEdge]
    split_ifs <;> simp [adv]
  · simp only [State.rowEdge]
    cases r.action <;> split_ifs <;> simp [adv, State.perform]
  · simp

/-- Edges add up. -/
theorem State.systemEdges_add (m n : Nat) (s : State) :
    s.systemEdges (m + n) = (s.systemEdges m).systemEdges n := by
  induction m generalizing s with
  | zero => simp [State.systemEdges]
  | succ m ih => rw [Nat.succ_add]; exact ih _

end Sys2Proof.Machine
end

