-- ==== Sys2Proof/Laws/Decode.lean ====
section
/-! SUPPORT. What the fields of an encoded word are, and how a word is made of its fields. -/

namespace Sys2Proof

theorem toNat_append_eq_add {n m : Nat} (a : BitVec n) (b : BitVec m) :
    (a ++ b).toNat = a.toNat * 2 ^ m + b.toNat := by
  rw [BitVec.toNat_append, ← Nat.shiftLeft_add_eq_or_of_lt b.isLt, Nat.shiftLeft_eq]

theorem encodeC_toNat (op : BitVec 4) (sda scl : Byte) (hc : HalfCycle) :
    (encodeC op sda scl hc).toNat = op.toNat * 2 ^ 28 + sda.toNat * 2 ^ 20 + scl.toNat * 2 ^ 12 + hc.toNat := by
  unfold encodeC
  rw [toNat_append_eq_add, toNat_append_eq_add, toNat_append_eq_add]
  omega

@[simp] theorem fieldOpcode_encodeC (op : BitVec 4) (sda scl : Byte) (hc : HalfCycle) :
    fieldOpcode (encodeC op sda scl hc) = op := by
  apply BitVec.eq_of_toNat_eq
  simp only [fieldOpcode, BitVec.extractLsb'_toNat, encodeC_toNat, Nat.shiftRight_eq_div_pow]
  have := op.isLt; have := sda.isLt; have := scl.isLt; have := hc.isLt
  omega

@[simp] theorem fieldSda_encodeC (op : BitVec 4) (sda scl : Byte) (hc : HalfCycle) :
    fieldSda (encodeC op sda scl hc) = sda := by
  apply BitVec.eq_of_toNat_eq
  simp only [fieldSda, BitVec.extractLsb'_toNat, encodeC_toNat, Nat.shiftRight_eq_div_pow]
  have := op.isLt; have := sda.isLt; have := scl.isLt; have := hc.isLt
  omega

@[simp] theorem fieldScl_encodeC (op : BitVec 4) (sda scl : Byte) (hc : HalfCycle) :
    fieldScl (encodeC op sda scl hc) = scl := by
  apply BitVec.eq_of_toNat_eq
  simp only [fieldScl, BitVec.extractLsb'_toNat, encodeC_toNat, Nat.shiftRight_eq_div_pow]
  have := op.isLt; have := sda.isLt; have := scl.isLt; have := hc.isLt
  omega

@[simp] theorem fieldHc_encodeC (op : BitVec 4) (sda scl : Byte) (hc : HalfCycle) :
    fieldHc (encodeC op sda scl hc) = hc := by
  apply BitVec.eq_of_toNat_eq
  simp only [fieldHc, BitVec.extractLsb'_toNat, encodeC_toNat, Nat.shiftRight_eq_div_pow]
  have := op.isLt; have := sda.isLt; have := scl.isLt; have := hc.isLt
  omega

@[simp] theorem fieldOpcode_encodeN (op : BitVec 4) : fieldOpcode (encodeN op) = op := by
  apply BitVec.eq_of_toNat_eq
  simp only [fieldOpcode, encodeN, BitVec.extractLsb'_toNat, toNat_append_eq_add, Nat.shiftRight_eq_div_pow,
    BitVec.toNat_ofNat]
  have := op.isLt
  omega

@[simp] theorem fieldOpcode_encodeD (op : BitVec 4) (data : Byte) : fieldOpcode (encodeD op data) = op := by
  apply BitVec.eq_of_toNat_eq
  simp only [fieldOpcode, encodeD, BitVec.extractLsb'_toNat, toNat_append_eq_add, Nat.shiftRight_eq_div_pow,
    BitVec.toNat_ofNat]
  have := op.isLt; have := data.isLt
  omega

@[simp] theorem fieldOpcode_encodeL (op : BitVec 4) (level : Level) : fieldOpcode (encodeL op level) = op := by
  apply BitVec.eq_of_toNat_eq
  simp only [fieldOpcode, encodeL, BitVec.extractLsb'_toNat, toNat_append_eq_add, Nat.shiftRight_eq_div_pow,
    BitVec.toNat_ofNat]
  have := op.isLt; have := (BitVec.ofBool level).isLt
  omega

/-- A format C word is its four fields. -/
theorem encodeC_fields (w : CmdWord) : encodeC (fieldOpcode w) (fieldSda w) (fieldScl w) (fieldHc w) = w := by
  apply BitVec.eq_of_toNat_eq
  rw [encodeC_toNat]
  simp only [fieldOpcode, fieldSda, fieldScl, fieldHc, BitVec.extractLsb'_toNat, Nat.shiftRight_eq_div_pow]
  have := w.isLt
  omega

/-- A format N word is its opcode. -/
theorem encodeN_fields (w : CmdWord) (h : lowBitsN w = 0#28) : encodeN (fieldOpcode w) = w := by
  have e := congrArg BitVec.toNat h
  apply BitVec.eq_of_toNat_eq
  simp only [encodeN, toNat_append_eq_add]
  simp only [fieldOpcode, lowBitsN, BitVec.extractLsb'_toNat, Nat.shiftRight_eq_div_pow, BitVec.toNat_ofNat] at e ⊢
  have := w.isLt
  omega

/-- A format D word is its opcode and its data byte. -/
theorem encodeD_fields (w : CmdWord) (h : lowBitsD w = 0#20) : encodeD (fieldOpcode w) (fieldData w) = w := by
  have e := congrArg BitVec.toNat h
  apply BitVec.eq_of_toNat_eq
  simp only [encodeD, toNat_append_eq_add]
  simp only [fieldOpcode, fieldData, lowBitsD, BitVec.extractLsb'_toNat, Nat.shiftRight_eq_div_pow,
    BitVec.toNat_ofNat] at e ⊢
  have := w.isLt
  omega

/-- A format L word is its opcode and its level. -/
theorem encodeL_fields (w : CmdWord) (h : lowBitsL w = 0#27) : encodeL (fieldOpcode w) (fieldLevel w) = w := by
  have e := congrArg BitVec.toNat h
  apply BitVec.eq_of_toNat_eq
  simp only [encodeL, toNat_append_eq_add]
  have hl : (BitVec.ofBool (fieldLevel w)).toNat = w.toNat % 2 := by
    simp [fieldLevel, BitVec.getLsbD, Nat.testBit_zero, BitVec.toNat_ofBool]
    rcases Nat.mod_two_eq_zero_or_one w.toNat with h | h <;> simp [h]
  rw [hl]
  simp only [fieldOpcode, lowBitsL, BitVec.extractLsb'_toNat, Nat.shiftRight_eq_div_pow, BitVec.toNat_ofNat] at e ⊢
  have := w.isLt
  omega

end Sys2Proof
end

