-- ==== Sys2Proof/Laws/Ops.lean ====
section
/-! SUPPORT. One lemma per shared operation that says everything it does, and one per operation's step sequence. -/

namespace Sys2Proof.Machine

/-! ## Acceptance guard -/

@[simp] theorem State.whenReady_ready (s : State) (run : State → State) (h : s.busy = false) :
    s.whenReady run = .next (run s) := by simp [State.whenReady, h]

@[simp] theorem State.whenReady_busy (s : State) (run : State → State) (h : s.busy = true) :
    s.whenReady run = .next s := by simp [State.whenReady, h]

/-- A guarded operation always answers a next state: the state itself when busy, its effect when not. -/
theorem State.whenReady_next_iff (s t : State) (run : State → State) :
    s.whenReady run = .next t ↔ (s.busy = true ∧ t = s) ∨ (s.busy = false ∧ t = run s) := by
  cases h : s.busy <;> simp [State.whenReady, h, eq_comm]

/-! ## The environment -/

theorem State.envAnswer_cons (s : State) (line : Line) (a : Level) (rest : List Level)
    (h : s.envScript = a :: rest) : s.envAnswer line = a := by simp [State.envAnswer, h]

theorem State.envAnswer_nil (s : State) (line : Line) (h : s.envScript = []) :
    s.envAnswer line = Config.freeEnv s.runNo line s.trace := by simp [State.envAnswer, h]

/-- Both cases of an answer in one expression. -/
theorem State.envAnswer_eq (s : State) (line : Line) :
    s.envAnswer line = s.envScript.head?.getD (Config.freeEnv s.runNo line s.trace) := by
  cases h : s.envScript <;> simp [State.envAnswer, h]

/-- A released line reads as the environment has it. -/
theorem State.sdaLevel_released (s : State) (h : s.lastSda = HIGH) : s.sdaLevel = s.envAnswer .sda := by
  simp [State.sdaLevel, h]

theorem State.sclLevel_released (s : State) (h : s.lastScl = HIGH) : s.sclLevel = s.envAnswer .scl := by
  simp [State.sclLevel, h]

/-- A line the block pulls LOW reads LOW. -/
theorem State.sdaLevel_pulled (s : State) (h : s.lastSda = LOW) : s.sdaLevel = LOW := by simp [State.sdaLevel, h]

theorem State.sclLevel_pulled (s : State) (h : s.lastScl = LOW) : s.sclLevel = LOW := by simp [State.sclLevel, h]

/-! ## Accumulation -/

/-- Shifting a bit in is one step of "`result = (result << 1) | sampledBit`" (43_byte_transfer.md R125). -/
theorem byteOf_append (vs : List Level) (v : Level) : byteOf (vs ++ [v]) = shiftIn (byteOf vs) v := by
  simp only [byteOf, List.foldl_append, List.foldl_cons, List.foldl_nil]
  generalize List.foldl _ _ vs = r
  revert r
  cases v <;> decide +kernel

/-! ## What each operation's steps do -/

theorem beginSteps_eq (s : State) : beginSteps s =
    { s with
      odCfg := true, lastSda := HIGH, lastScl := HIGH, dly := 0#12, presc := Config.clkPerUs - 1,
      trace := s.trace ++ traceBegin s.sdaPin s.sclPin } := by
  simp [beginSteps, State.cfgOd, State.drive, State.wait, State.startWait, State.elapse, traceBegin]

theorem startSteps_eq (s : State) : startSteps s =
    { s with
      lastSda := LOW, lastScl := HIGH, dly := 0#12, presc := Config.clkPerUs - 1,
      trace := s.trace ++ traceStart s.lines } := by
  simp [startSteps, State.drive, State.wait, State.startWait, State.elapse, traceStart, State.lines]

theorem stopSteps_eq (s : State) : stopSteps s =
    { s with
      lastSda := HIGH, lastScl := HIGH, dly := 0#12, presc := Config.clkPerUs - 1,
      trace := s.trace ++ traceStop s.lines } := by
  simp [stopSteps, State.drive, State.wait, State.startWait, State.elapse, traceStop, State.lines]

/-- A round of WRB's group for a bit other than 0. -/
theorem wrbBit_eq (s : State) (b : BitVec 3) (h : b ≠ 0#3) : wrbBit s b =
    { s with
      bit := b, lastSda := dataBit s.shreg b, lastScl := LOW, dly := 0#12, presc := Config.clkPerUs - 1,
      trace := s.trace ++ traceWrittenBit (dataBit s.shreg b) } := by
  simp [wrbBit, h, State.atBit, State.drive, State.wait, State.startWait, State.elapse, traceWrittenBit]

/-- The round of bit 0, which ends with the operation's last wait. -/
theorem wrbBit_zero_eq (s : State) : wrbBit s 0#3 =
    { s with
      bit := 0#3, lastSda := dataBit s.shreg 0#3, lastScl := LOW, dly := 0#12, presc := Config.clkPerUs - 1,
      trace := s.trace ++ traceWrittenBit (dataBit s.shreg 0#3) ++ [.wait] } := by
  simp [wrbBit, State.atBit, State.drive, State.wait, State.startWait, State.elapse, traceWrittenBit]

/-- A round of RDB's group: one level `v`, the next scripted answer if there is one, is sampled and shifted in. -/
theorem rdbBit_eq (s : State) (b : BitVec 3) :
    ∃ v : Level, (∀ a, s.envScript[0]? = some a → v = a) ∧ rdbBit s b =
      { s with
        bit := b, lastSda := HIGH, lastScl := LOW, dly := 0#12, presc := Config.clkPerUs - 1,
        envScript := s.envScript.tail, shreg := shiftIn s.shreg v, trace := s.trace ++ traceReadBit v } := by
  refine ⟨State.envAnswer ((s.atBit b).drive HIGH HIGH).wait .sda, ?_, ?_⟩
  · intro a h
    cases h2 : s.envScript <;> simp_all [State.envAnswer]
  · simp [rdbBit, State.shiftSda, State.sdaLevel]
    simp [State.drive, State.wait, State.startWait, State.elapse, State.atBit, traceReadBit]

/-- RDB's leading steps. -/
theorem rdbLead_eq (s : State) : rdbLead s =
    if s.skip then s
    else { s with
      lastSda := HIGH, lastScl := LOW, dly := 0#12, presc := Config.clkPerUs - 1,
      trace := s.trace ++ [.drive s.lastSda LOW, .drive HIGH LOW, .wait] } := by
  cases h : s.skip <;>
    simp [rdbLead, h, leadingStep, State.drive, State.wait, State.startWait, State.elapse]

theorem wacklSteps_eq (s : State) : wacklSteps s =
    { s with
      lastSda := HIGH, lastScl := LOW, dly := 0#12, presc := Config.clkPerUs - 1,
      trace := s.trace ++ traceWackl s.lines s.lvl } := by
  simp [wacklSteps, leadingStep, State.drive, State.wait, State.startWait, State.elapse, traceWackl, State.lines]

/-- RACK's steps: the level held in `smp` is the environment's answer, since SDA is released. -/
theorem rackSteps_eq (s : State) :
    let a := s.envScript.head?.getD (Config.freeEnv s.runNo .sda
      (s.trace ++ [.drive s.lastSda LOW, .drive HIGH LOW, .wait, .drive HIGH HIGH, .wait]))
    rackSteps s =
      { s with
        lastSda := HIGH, lastScl := LOW, dly := 0#12, presc := Config.clkPerUs - 1, smp := a,
        envScript := s.envScript.tail, trace := s.trace ++ traceRack s.lines a } := by
  simp [rackSteps, State.sampleSda, State.sdaLevel, State.envAnswer_eq, leadingStep]
  simp [State.drive, State.wait, State.startWait, State.elapse, traceRack, State.lines]

/-- RDS's steps: the level held in `smp` is the environment's answer, since SCL is released. -/
theorem rdsSteps_eq (s : State) :
    let c := s.envScript.head?.getD (Config.freeEnv s.runNo .scl (s.trace ++ [.drive s.lastSda HIGH, .wait]))
    rdsSteps s =
      { s with
        lastScl := HIGH, dly := 0#12, presc := Config.clkPerUs - 1, smp := c, stretchPending := true,
        envScript := s.envScript.tail, trace := s.trace ++ traceRds s.lines c } := by
  simp [rdsSteps, State.sampleScl, State.sclLevel, State.envAnswer_eq]
  simp [State.setFlag, traceRds, State.lines]

/-! ## Traces -/

/-- The new events of a state whose trace extends another's. -/
theorem newEvents_of_append (s t : State) (es : PadTrace) (h : t.trace = s.trace ++ es) : newEvents s t = es := by
  simp [newEvents, h]

theorem linesAfter_append (cur : Lines) (es fs : PadTrace) :
    linesAfter cur (es ++ fs) = linesAfter (linesAfter cur es) fs := by
  induction es generalizing cur with
  | nil => rfl
  | cons e es ih => cases e <;> simp [linesAfter, ih]

theorem conditions_append (cur : Lines) (es fs : PadTrace) :
    conditions cur (es ++ fs) = conditions cur es ++ conditions (linesAfter cur es) fs := by
  induction es generalizing cur with
  | nil => rfl
  | cons e es ih => cases e <;> simp [conditions, linesAfter, ih]

theorem clockRises_append (cur : Lines) (es fs : PadTrace) :
    clockRises cur (es ++ fs) = clockRises cur es ++ clockRises (linesAfter cur es) fs := by
  induction es generalizing cur with
  | nil => rfl
  | cons e es ih =>
    cases e <;> simp only [List.cons_append, clockRises, linesAfter, ih]
    split <;> simp

theorem oneLinePerStep_append (cur : Lines) (es fs : PadTrace) :
    oneLinePerStep cur (es ++ fs) = (oneLinePerStep cur es && oneLinePerStep (linesAfter cur es) fs) := by
  induction es generalizing cur with
  | nil => rfl
  | cons e es ih => cases e <;> simp [oneLinePerStep, linesAfter, ih, Bool.and_assoc]

theorem sampledLevels_append (es fs : PadTrace) : sampledLevels (es ++ fs) = sampledLevels es ++ sampledLevels fs := by
  induction es with
  | nil => rfl
  | cons e es ih => cases e <;> simp [sampledLevels, ih]

end Sys2Proof.Machine
end

