-- ==== Sys2Proof/Laws/PerInstr.lean ====
section
/-! SUPPORT. Per-instruction facts about the syntax: `cmd[31:28]` of an encoded instruction is its opcode, and the core
operation of a spelling has the same word (30_encoding.md R60, R61, R71). -/

/-- The opcode field of the instruction's word is its opcode, and spelling it as its core operation changes no bit. -/
def Sys2Proof.Laws.OpcodeField.Statement (i : Sys2Proof.Instr) : Prop :=
  Sys2Proof.fieldOpcode (Sys2Proof.encode i) = i.opcode ∧ Sys2Proof.encode i.core = Sys2Proof.encode i

theorem Sys2Proof.Laws.OpcodeField.begin (sda scl : Sys2Proof.Byte) (hc : Sys2Proof.HalfCycle) :
    Sys2Proof.Laws.OpcodeField.Statement (.begin sda scl hc) := ⟨Sys2Proof.fieldOpcode_encodeC _ _ _ _, rfl⟩

theorem Sys2Proof.Laws.OpcodeField.start : Sys2Proof.Laws.OpcodeField.Statement .start :=
  ⟨Sys2Proof.fieldOpcode_encodeN _, rfl⟩

theorem Sys2Proof.Laws.OpcodeField.stop : Sys2Proof.Laws.OpcodeField.Statement .stop :=
  ⟨Sys2Proof.fieldOpcode_encodeN _, rfl⟩

theorem Sys2Proof.Laws.OpcodeField.wrb (data : Sys2Proof.Byte) :
    Sys2Proof.Laws.OpcodeField.Statement (.wrb data) := ⟨Sys2Proof.fieldOpcode_encodeD _ _, rfl⟩

theorem Sys2Proof.Laws.OpcodeField.rdb : Sys2Proof.Laws.OpcodeField.Statement .rdb :=
  ⟨Sys2Proof.fieldOpcode_encodeN _, rfl⟩

theorem Sys2Proof.Laws.OpcodeField.wackl (level : Sys2Proof.Level) :
    Sys2Proof.Laws.OpcodeField.Statement (.wackl level) := ⟨Sys2Proof.fieldOpcode_encodeL _ _, rfl⟩

theorem Sys2Proof.Laws.OpcodeField.wack : Sys2Proof.Laws.OpcodeField.Statement .wack :=
  ⟨Sys2Proof.fieldOpcode_encodeL _ _, rfl⟩

theorem Sys2Proof.Laws.OpcodeField.wnack : Sys2Proof.Laws.OpcodeField.Statement .wnack :=
  ⟨Sys2Proof.fieldOpcode_encodeL _ _, rfl⟩

theorem Sys2Proof.Laws.OpcodeField.rack : Sys2Proof.Laws.OpcodeField.Statement .rack :=
  ⟨Sys2Proof.fieldOpcode_encodeN _, rfl⟩

theorem Sys2Proof.Laws.OpcodeField.rds : Sys2Proof.Laws.OpcodeField.Statement .rds :=
  ⟨Sys2Proof.fieldOpcode_encodeN _, rfl⟩
end

