-- ==== Sys2Proof/Tests/Slice0.lean ====
section
/-! SUPPORT. Small tests whose expected values come from the spec's vectors (95_test_vectors.md) or words (30_encoding.md
R72), and a witness for the hypotheses of each statement. -/

namespace Sys2Proof.Tests

open Sys2Proof Sys2Proof.Machine

/-! ## WellFormed -/

/-- 30_encoding.md R68 (e): `hc = 0` is an illegal operand value. -/
theorem test_wellFormed_refuses_zero_half_cycle : (Instr.begin 4#8 5#8 0#12).wellFormed = false := by decide
theorem test_wellFormed_accepts_smallest_half_cycle : (Instr.begin 0#8 1#8 1#12).wellFormed = true := by decide

/-! ## Decoding: words written out bit by bit from 30_encoding.md R62 to R65 -/

/-- V5, `BEGIN 0, 1, 1`: 0001 | 0000 0000 | 0000 0001 | 0000 0000 0001. -/
theorem test_decode_begin : decode 0b00010000000000000001000000000001#32 = .ok (.begin 0#8 1#8 1#12) := by decide
/-- V4, the largest half-cycle. -/
theorem test_decode_begin_max : decode 0x1FFFEFFF#32 = .ok (.begin 0xFF#8 0xFE#8 0xFFF#12) := by decide
/-- V7. -/
theorem test_decode_start : decode 0b00100000000000000000000000000000#32 = .ok .start := by decide
/-- V8. -/
theorem test_decode_stop : decode 0b00110000000000000000000000000000#32 = .ok .stop := by decide
/-- V9a: 0100, twenty zeros, 1010 0000. -/
theorem test_decode_wrb : decode 0b01000000000000000000000010100000#32 = .ok (.wrb 0xA0#8) := by decide
/-- V9d. -/
theorem test_decode_rdb : decode 0b01010000000000000000000000000000#32 = .ok .rdb := by decide
/-- V9e, the word of WACK too. -/
theorem test_decode_wackl_ack : decode 0b01100000000000000000000000000000#32 = .ok (.wackl LOW) := by decide
/-- V9f, the word of WNACK too. -/
theorem test_decode_wackl_nack : decode 0b01100000000000000000000000000001#32 = .ok (.wackl HIGH) := by decide
/-- V9g. -/
theorem test_decode_rack : decode 0b01110000000000000000000000000000#32 = .ok .rack := by decide
/-- V9h. -/
theorem test_decode_rds : decode 0b10000000000000000000000000000000#32 = .ok .rds := by decide
/-- R71 (b), R71 (c). -/
theorem test_encode_wack : encode .wack = 0x60000000#32 := by decide
theorem test_encode_wnack : encode .wnack = 0x60000001#32 := by decide
/-- V9j, V9p, V9m, V9n, V9o: reserved words, by name. -/
theorem test_decode_reserved_opcode : decode 0x90000000#32 = .error .reservedOpcode := by decide
theorem test_decode_reserved_rdb_bit27 : decode 0x58000000#32 = .error .reservedBits := by decide
theorem test_decode_reserved_wrb_bit8 : decode 0x40000100#32 = .error .reservedBits := by decide
theorem test_decode_reserved_wackl_bit1 : decode 0x60000003#32 = .error .reservedBits := by decide
theorem test_decode_reserved_rds_bit0 : decode 0x80000001#32 = .error .reservedBits := by decide
theorem test_decodeTableWord : decodeTableWord 32 0x400000A0 = some (.wrb 0xA0#8) := by decide

/-! ## Operations: 95_test_vectors.md section 2, one step each -/

/-- The state a vector starts from: `(last_sda, last_scl, stretch_pending)`, configured by `BEGIN 4, 5, 5`, and the
environment's answers. -/
def vec (sda scl : Level) (flag : Bool) (answers : List Level) : State :=
  { State.reset with
    sdaPin := 4#8, sclPin := 5#8, halfCycleUs := 5#12, configured := true, lastSda := sda, lastScl := scl, stretchPending := flag,
    envScript := answers }

/-- The state an outcome goes on with; the reset state for a stop (no vector below stops). -/
def after (o : Host.Outcome State Fault Refusal) : State :=
  match o with
  | .next t => t
  | .fault _ => State.reset
  | .refused _ => State.reset

/-- What a vector states: the trace, the triple after, `rsp_data`. -/
def seen (i : Instr) (s : State) : PadTrace × Level × Level × Bool × Byte :=
  let t := after (exec i s)
  (t.trace, t.lastSda, t.lastScl, t.stretchPending, t.res)

/-- V15. -/
theorem test_begin_V15 : seen (.begin 2#8 14#8 1#12) (vec false false true []) =
    ([.od 2#8 14#8, .drive true true, .wait], true, true, false, 0x00#8) := by decide
/-- V10. -/
theorem test_start_V10 : seen .start (vec true true false []) =
    ([.drive true true, .wait, .drive true true, .wait, .drive false true, .wait], false, true, false, 0x00#8) := by
  decide
/-- V12. -/
theorem test_start_V12 : seen .start (vec false false false []) =
    ([.drive true false, .wait, .drive true true, .wait, .drive false true, .wait], false, true, false, 0x00#8) := by
  decide
/-- V20. -/
theorem test_stop_V20 : seen .stop (vec true false false []) =
    ([.drive false false, .wait, .drive false true, .wait, .drive true true, .wait], true, true, false, 0x00#8) := by
  decide
/-- V33, the clock pulses of `WRB 0x01` and the state after. -/
theorem test_wrb_V33 : clockRises (false, true) (seen (.wrb 0x01#8) (vec false true false [])).1 =
    [false, false, false, false, false, false, false, true] ∧
    (seen (.wrb 0x01#8) (vec false true false [])).2 = (true, false, false, 0x00#8) := by decide
/-- V34, the first eight events of `WRB 0x80`: `D(0,0) D(1,0) w D(1,1) w D(1,0) D(0,0) w`. -/
theorem test_wrb_V34 : (seen (.wrb 0x80#8) (vec false true false [])).1.take 8 =
    [.drive false false, .drive true false, .wait, .drive true true, .wait, .drive true false, .drive false false,
      .wait] := by decide
/-- V40: `0x5A`, with the leading steps. -/
theorem test_rdb_V40 :
    (seen .rdb (vec false false false [false, true, false, true, true, false, true, false])).2 =
      (true, false, false, 0x5A#8) ∧
    (seen .rdb (vec false false false [false, true, false, true, true, false, true, false])).1.take 6 =
      [.drive false false, .drive true false, .wait, .drive true true, .wait, .sampleSda false] := by decide
/-- V43: `0x69`, the leading steps skipped. -/
theorem test_rdb_V43 :
    (seen .rdb (vec true true true [false, true, true, false, true, false, false, true])).2 =
      (true, false, false, 0x69#8) ∧
    (seen .rdb (vec true true true [false, true, true, false, true, false, false, true])).1.take 5 =
      [.drive true true, .wait, .sampleSda false, .drive true false, .wait] := by decide
/-- V50. -/
theorem test_wackl_V50 : seen (.wackl false) (vec true false false []) =
    ([.drive true false, .drive false false, .wait, .drive false true, .wait, .drive false false, .drive true false,
      .wait], true, false, false, 0x00#8) := by decide
/-- V52. -/
theorem test_wack_V52 : seen .wack (vec true true true []) =
    ([.drive true false, .drive false false, .wait, .drive false true, .wait, .drive false false, .drive true false,
      .wait], true, false, false, 0x00#8) := by decide
/-- V54. -/
theorem test_wnack_V54 : seen .wnack (vec false false false []) =
    ([.drive false false, .drive true false, .wait, .drive true true, .wait, .drive true false, .drive true false,
      .wait], true, false, false, 0x00#8) := by decide
/-- V60. -/
theorem test_rack_V60 : seen .rack (vec false false false [false]) =
    ([.drive false false, .drive true false, .wait, .drive true true, .wait, .sampleSda false, .drive true false,
      .wait], true, false, false, 0x00#8) := by decide
/-- V65. -/
theorem test_rack_V65 : (seen .rack (vec false true false [true])).2 = (true, false, false, 0x01#8) := by decide
/-- V71. -/
theorem test_rds_V71 : seen .rds (vec false false false [false]) =
    ([.drive false true, .wait, .sampleScl false], false, true, true, 0x00#8) := by decide
/-- V76. -/
theorem test_rds_V76 : seen .rds (vec true true true [true]) =
    ([.drive true true, .wait, .sampleScl true], true, true, true, 0x01#8) := by decide

/-! ## The step -/

/-- The first step after reset runs the word placed where the host's next word is. -/
theorem test_step_first_word (t : State) (h : step (State.reset.withFetchWord 32 0x20000000) = .next t) :
    t.op = opSTART ∧ t.lines = (LOW, HIGH) ∧ t.cmds = [] := by cases h; decide
/-- V80: a reserved word is refused by name. -/
theorem test_step_refuses_zero_word : step (State.reset.withFetchWord 32 0) =
    .refused (.reservedWord 0#32 .reservedOpcode) := by rfl

/-- V6, P7c: BEGIN with `hc = 0` is refused. -/
theorem test_step_refuses_zero_half_cycle : step (State.reset.withFetchWord 32 0x10405000) =
    .refused (.illegalOperand (.begin 4#8 5#8 0#12)) := by rfl

/-- V83, P7a: a command as the first after reset is refused; a BEGIN is not, and the command may follow it. -/
theorem test_step_refuses_before_begin :
    step { State.reset with cmds := [0x20000000#32] } = .refused (.beforeBegin .start) := by rfl
theorem test_step_begin_first (t u : State)
    (h : step { State.reset with cmds := [0x10405005#32, 0x20000000#32] } = .next t) (h' : step t = .next u) :
    t.configured = true ∧ u.op = opSTART := by
  cases h; cases h'; decide

/-! ## Reset and the host's grammar -/

/-- R181, R183: a reset between two clock edges releases both lines at once, in the middle of an operation. -/
theorem test_reset_needs_no_edge :
    let s := (vec false false true []).acceptPlain opSTOP .P1
    (s.busy, s.outputs.sdaPullLow, s.outputs.sclPullLow) = (true, true, true) ∧
    ((s.stimulus .resetLow).busy, (s.stimulus .resetLow).outputs.sdaPullLow,
      (s.stimulus .resetLow).outputs.sclPullLow) = (false, false, false) := by decide
/-- P3: a read with two clock-stretch polls is a sentence of R188's grammar. -/
theorem test_grammar_P3 : grammatical [.begin 4#8 5#8 5#12, .start, .wrb 0xA1#8, .rack, .rds, .rds, .rds, .rdb, .wnack,
    .stop] = true := by decide
/-- R188: the last byte a master receives is not answered with WACK, an earlier one may be. -/
theorem test_grammar_last_byte :
    grammatical [.begin 4#8 5#8 5#12, .start, .rdb, .wack, .rdb, .wnack, .stop] = true ∧
    grammatical [.begin 4#8 5#8 5#12, .start, .rdb, .wack, .stop] = false ∧
    grammatical [.begin 4#8 5#8 5#12, .start, .rdb, .wackl ACK, .start, .rdb, .wnack, .stop] = false := by decide

/-! ## The clock: 95_test_vectors.md T1 and T2, single edges -/

/-- T1, edge 1: RDS's T1 step with `half_cycle_us = 2`, `CLK_PER_US = 1`. -/
theorem test_clock_T1_edge1 :
    let s := { (vec true false false []).acceptRds with halfCycleUs := 2#12 }
    let t := s.busyEdge 1
    t.lines = (true, true) ∧ t.dly = 2#12 ∧ t.presc = 0 ∧ t.step = .T1 ∧ t.stretchPending = false := by decide
/-- T1, edge 3: the wait ends and the position moves to Ts. -/
theorem test_clock_T1_edge3 :
    let s := { (vec true true false []).acceptRds with halfCycleUs := 2#12, dly := 1#12 }
    let t := s.busyEdge 1
    t.dly = 0#12 ∧ t.step = .Ts ∧ t.busy = true := by decide
/-- T1, edge 5: completion with `res = 0x00`. -/
theorem test_clock_T1_edge5 :
    let s := { (vec true true true []).acceptRds with step := .fin, smp := LOW }
    let t := s.busyEdge 1
    t.busy = false ∧ t.rspValid = true ∧ t.res = 0x00#8 ∧ t.stretchPending = true := by decide
/-- T2, edge 3: `presc = 0`, so `dly` becomes 0 and `presc` is 1 after the edge. -/
theorem test_clock_T2_edge3 :
    let s := { (vec true false false []).acceptPlain opSTART .S1 with halfCycleUs := 1#12, dly := 1#12, presc := 0 }
    let t := s.busyEdge 2
    t.dly = 0#12 ∧ t.presc = 1 ∧ t.step = .S2 := by decide
/-- T3 with `CLK_PER_US = 10`: WRB takes 877 cycles, RDB 878 or, skipping, 826. -/
theorem test_clock_T3 :
    (vec false true false []).cycles 10 (.wrb 0#8) = 877 ∧ (vec false true false []).cycles 10 .rdb = 878 ∧
    (vec true true true []).cycles 10 .rdb = 826 ∧ State.reset.cycles 10 (.begin 4#8 5#8 5#12) = 54 := by decide

/-! ## The assembler: 30_encoding.md R70 to R72 -/

theorem test_asm_default_half_cycle : assembleText "BEGIN 2, 14" = some [0x1020E005#32] := by decide
theorem test_asm_mnemonics : assembleText "WRB 0xA0\nRACK -> ack\nWACKL NACK" =
    some [0x400000A0#32, 0x70000000#32, 0x60000001#32] := by decide
theorem test_asm_calls : assembleText "begin(4, 5, 5); start(); ack = readAck(); writeAck(); stop()" =
    some [0x10405005#32, 0x20000000#32, 0x70000000#32, 0x60000000#32, 0x30000000#32] := by decide
theorem test_asm_rejects_misfit : assembleText "WRB 256" = none := by decide

end Sys2Proof.Tests
end

