-- ==== Sys2Proof/Tests/Witnesses.lean ====
section
/-! SUPPORT. For each statement with hypotheses, concrete states and operands that meet all of them together, and for the
clauses of a statement the values where they meet. -/

namespace Sys2Proof.Tests

open Sys2Proof Sys2Proof.Machine

/-- A quiet state after an RDS: flag set, SCL released, eight answers to come. -/
def probed : State :=
  { vec true true true [false, true, true, false, true, false, false, true] with op := opRDS }

/-- A state inside RDS, in its wait. -/
def inWait : State := { (vec true true false [false]).acceptRds with dly := 5#12 }

/-- The hypothesis `busy = false` of the result, frame, count, flag, line-table and whole-machine statements. -/
theorem witness_ready : State.reset.busy = false := by decide

/-- ResetGivesTheSpecifiedValues and the edges of NothingSurvivesReset and ConfigurationPulseOfBegin. -/
theorem witness_ResetGivesTheSpecifiedValues : (⟨false, true, 0x20000000#32⟩ : Inputs).rstN = false := by decide

theorem witness_NothingSurvivesReset :
    (⟨false, true, 0#32⟩ : Inputs).rstN = false ∧ (⟨false, false, 1#32⟩ : Inputs).rstN = false ∧
    (vec true false true []).cmds = State.reset.cmds ∧ (vec true false true []).envScript = State.reset.envScript ∧
    (vec true false true []).runNo = State.reset.runNo ∧ vec true false true [] ≠ State.reset ∧
    decode 0x20000000#32 = .ok .start := by decide

theorem witness_BetweenCommandsNothingChanges :
    (vec true false false []).busy = false ∧ (vec true false false []).cmds = [] := by decide

/-- BusyBlockTakesNoCommand: a state in a wait, and for its last clause the one edge that ends an operation. -/
theorem witness_BusyBlockTakesNoCommand :
    inWait.busy = true ∧ (⟨true, true, 0x20000000#32⟩ : Inputs).rstN = true ∧
    ({ inWait with dly := 0#12, step := .fin }.edge ⟨true, true, 0x20000000#32⟩).busy = false := by decide

/-- A word that decodes (EncodeInvertsDecode). -/
theorem witness_EncodeInvertsDecode : decode 0x1FFFEFFF#32 = .ok (.begin 0xFF#8 0xFE#8 0xFFF#12) := by decide

/-- ReservedWordsMatchNoRow: each kind of R68 at its boundary, and the legal neighbour. -/
theorem witness_ReservedWordsMatchNoRow :
    decode 0x0FFFFFFF#32 = .error .reservedOpcode ∧ decode 0x90000000#32 = .error .reservedOpcode ∧
    decode 0x80000000#32 = .ok .rds ∧ decode 0x88000000#32 = .error .reservedBits ∧
    decode 0x40000100#32 = .error .reservedBits ∧ decode 0x400000FF#32 = .ok (.wrb 0xFF#8) ∧
    decode 0x60000002#32 = .error .reservedBits ∧ decode 0x10001000#32 = .ok (.begin 0#8 1#8 0#12) := by decide

/-- PseudoInstructionsExpand: the first values that do not fit and the last that do. -/
theorem witness_PseudoInstructionsExpand :
    (AsmCmd.begin 256 0 (some 1)).word = none ∧ (AsmCmd.begin 0 256 (some 1)).word = none ∧
    (AsmCmd.begin 0 1 (some 4096)).word = none ∧ (AsmCmd.begin 255 254 (some 4095)).word = some 0x1FFFEFFF#32 ∧
    (AsmCmd.wrb 256).word = none ∧ (AsmCmd.wrb 255).word = some 0x400000FF#32 ∧ (AsmCmd.wackl 2).word = none := by
  decide

/-- StepRunsTheHostsNextCommand, both clauses. -/
theorem witness_StepRunsTheHostsNextCommand :
    { vec true true false [] with cmds := [0x30000000#32, 0#32] }.busy = false ∧
    { vec true true false [] with cmds := [0x30000000#32, 0#32] }.cmds = 0x30000000#32 :: [0#32] ∧
    decode 0x30000000#32 = .ok .stop ∧ Instr.stop.wellFormed = true ∧
    (vec true true false []).configured = true ∧
    decodeTableWord 32 0x400000A0 = some (.wrb 0xA0#8) ∧ (Instr.wrb 0xA0#8).wellFormed = true ∧
    decodeTableWord 32 0x10405001 = some (.begin 4#8 5#8 1#12) ∧ (Instr.begin 4#8 5#8 1#12).wellFormed = true := by decide

theorem witness_ReservedWordsAreRefused :
    { State.reset with cmds := [0#32] }.busy = false ∧ { State.reset with cmds := [0#32] }.cmds = 0#32 :: [] ∧
    decode 0#32 = .error .reservedOpcode ∧ { State.reset with cmds := [0x10405000#32] }.busy = false ∧
    { State.reset with cmds := [0x10405000#32] }.cmds = 0x10405000#32 :: [] ∧
    fieldOpcode 0x10405000#32 = 0x1#4 ∧ (0x10405000#32).extractLsb' 0 12 = 0#12 := by decide

theorem witness_RdbReadsScriptedByte :
    let s := vec false false false [false, true, false, true, true, false, true, false]
    s.busy = false ∧ s.stretchPending = false ∧ [false, true, false, true, true, false, true, false].length = 8 ∧
    s.envScript = [false, true, false, true, true, false, true, false] ++ [] := by decide

theorem witness_RdbAfterProbeSkipsLeadingSteps :
    probed.busy = false ∧ probed.stretchPending = true ∧
    [false, true, true, false, true, false, false, true].length = 8 ∧
    probed.envScript = [false, true, true, false, true, false, false, true] ++ [] := by decide

/-- HalfCycleIsOnlyTiming and PinIdentifiersAreOpaque: an instruction that is no BEGIN, in a ready state. -/
theorem witness_instruction_other_than_begin :
    probed.busy = false ∧ ∀ sda scl hc, Instr.rdb ≠ .begin sda scl hc := ⟨by decide, by intro a b c h; cases h⟩

/-- TraceOnlyGrows, and the step hypothesis of the invariants: a step that runs an operation and one inside an
operation. -/
theorem witness_step_goes_on :
    (∃ t, step { probed with cmds := [0x50000000#32] } = .next t) ∧ ∃ t, step inWait = .next t := ⟨⟨_, rfl⟩, ⟨_, rfl⟩⟩

/-- ContractKeepsTheBlockConfigured: a state and word of the refusal, and a state and command of the contract, before and
after the first BEGIN. -/
theorem witness_ContractKeepsTheBlockConfigured :
    ({ State.reset with cmds := [0x20000000#32] }.busy = false ∧
      { State.reset with cmds := [0x20000000#32] }.configured = false ∧
      { State.reset with cmds := [0x20000000#32] }.cmds = 0x20000000#32 :: [] ∧
      decode 0x20000000#32 = .ok .start ∧ ∀ sda scl hc, Instr.start ≠ .begin sda scl hc) ∧
    (State.reset.busy = false ∧ State.reset.ConfiguredWaits ∧
      State.reset.inContract (.begin 4#8 5#8 1#12) = true) ∧
    ((vec true true false []).busy = false ∧ (vec true true false []).ConfiguredWaits ∧
      (vec true true false []).inContract .start = true) :=
  ⟨⟨by decide, by decide, by decide, by decide, by intro a b c h; cases h⟩,
    ⟨by decide, (by intro h; cases h), by decide⟩, ⟨by decide, (by intro _; decide), by decide⟩⟩

/-- ContractKeepsTheBlockConfigured, last clause: a configured state whose step goes on, and the step of a first BEGIN. -/
theorem witness_configured_step :
    ({ vec true true false [] with cmds := [0x20000000#32] }.configured = true ∧
      ∃ t, step { vec true true false [] with cmds := [0x20000000#32] } = .next t) ∧
    ∃ t, step { State.reset with cmds := [0x10405005#32] } = .next t := ⟨⟨by decide, ⟨_, rfl⟩⟩, ⟨_, rfl⟩⟩

/-- StepKeepsRequestTracking: after a START, requests (0, 1). -/
theorem witness_StepKeepsRequestTracking :
    let s := { vec false true false [] with trace := traceStart (true, true), cmds := [0x30000000#32] }
    linesAfter (HIGH, HIGH) s.trace = s.lines ∧ ∃ t, step s = .next t := ⟨by decide, ⟨_, rfl⟩⟩

/-- StepKeepsQuiet and OneLinePerDriveStep: a quiet state with the flag set. -/
theorem witness_Quiet : probed.Quiet ∧ probed.stretchPending = true := ⟨⟨by decide, by decide, by decide⟩, by decide⟩

/-- SampleIsRequestAndEnvironment: a line pulled LOW, and a scripted answer. -/
theorem witness_SampleIsRequestAndEnvironment :
    (vec false false false [true]).lastSda = LOW ∧ (vec false false false [true]).lastScl = LOW ∧
    (vec false false false [true]).envScript = true :: [] ∧ (vec false false false [true]).sampleSda.smp = LOW := by
  decide

/-- StartFromEachLineState, StopFromEachLineState, BeginOnABusyLineMakesAStop, OneLinePerDriveStep: the four line
states. -/
theorem witness_four_line_states :
    (vec true true false []).lines = (HIGH, HIGH) ∧ (vec true false false []).lines = (HIGH, LOW) ∧
    (vec false false false []).lines = (LOW, LOW) ∧ (vec false true false []).lines = (LOW, HIGH) := by decide

/-- BytesAndAcknowledgesMakeNoCondition: each of its four cases, and the RDB that skips from `(0, 1)`. -/
theorem witness_BytesAndAcknowledgesMakeNoCondition :
    (vec false true true []).busy = false ∧ (∃ d, Instr.wrb 0xA5#8 = .wrb d) ∧
    (∃ l, Instr.core .wnack = .wackl l) ∧ Instr.rack = .rack ∧
    (Instr.rdb = .rdb ∧ (vec false true true []).stretchPending = true ∧
      (vec false true true []).lines = (LOW, HIGH)) :=
  ⟨by decide, ⟨_, rfl⟩, ⟨_, rfl⟩, rfl, rfl, by decide, by decide⟩

theorem witness_SamplesAccumulateFromTheTop :
    (vec true false false [true, false]).shreg = 0x00#8 ∧ [7#3, 6#3].length ≤ 8 ∧ bitOrder.length ≤ 8 := by decide

theorem witness_ProbeOpensTheFirstClockPulse :
    (vec true false false []).busy = false ∧ (vec true false false []).lines = (HIGH, LOW) := by decide

theorem witness_ProbeRightAfterStartEndsInAStop :
    (vec false true false []).busy = false ∧ Phase.started.fits (vec false true false []) = true := by decide

/-- GrammarMakesOnlyOwnConditions: a phase, a fitting state and an allowed command for each phase of the grammar. -/
theorem witness_GrammarMakesOnlyOwnConditions :
    (Phase.unconfigured.fits State.reset = true ∧
      Phase.unconfigured.next (.begin 4#8 5#8 5#12) = some .idle) ∧
    (Phase.idle.fits (vec true true false []) = true ∧ Phase.idle.next .start = some .started) ∧
    (Phase.started.fits (vec false true false []) = true ∧ Phase.started.next (.wrb 0xA0#8) = some .wrote) ∧
    (Phase.wrote.fits (vec false false false []) = true ∧ Phase.wrote.next .rack = some .between) ∧
    (Phase.read.fits (vec true false false []) = true ∧ Phase.read.next .wnack = some .between ∧
      Phase.read.next .wack = some .acked) ∧
    (Phase.probed.fits probed = true ∧ Phase.probed.next .rdb = some .read) ∧
    (Phase.probedLow.fits (vec false true true []) = true ∧ Phase.probedLow.next .rdb = some .read) ∧
    (Phase.acked.fits (vec true false false []) = true ∧ Phase.acked.next .stop = some .idle ∧
      Phase.acked.allowed .stop = none ∧ Phase.acked.allowed .rdb = some .read) ∧
    (Phase.between.fits (vec true false false []) = true ∧ Phase.between.next .stop = some .idle ∧
      Phase.between.allowed .stop = some .idle) ∧
    (vec false true true []).busy = false ∧ probed.busy = false := by decide

theorem witness_ClockMachineRunsEachOperation :
    let s := { vec true false false [false] with cmds := [0x80000000#32] }
    s.busy = false ∧ s.dly = 0#12 ∧ s.cmds = 0x80000000#32 :: [] ∧ decode 0x80000000#32 = .ok .rds := by decide

theorem witness_WaitLastsHalfCycleTimesClock :
    0 < 2 ∧ inWait.busy = true ∧ inWait.halfCycleUs ≠ 0#12 ∧ 0 < 9 ∧ 9 < inWait.halfCycleUs.toNat * 2 := by decide

/-- NoPartialResult: an edge within a wait, one that does a row, and the completion. -/
theorem witness_NoPartialResult :
    inWait.busy = true ∧ (inWait.busyEdge 2).busy = true ∧
    ({ inWait with dly := 0#12 }.busyEdge 2).busy = true ∧
    ({ inWait with dly := 0#12, step := .fin }.busyEdge 2).busy = false := by decide

theorem witness_CompletionCycleAcceptsTheNextCommand :
    ((vec true true false []).complete 0x5A#8).busy = false ∧
    ((vec true true false []).complete 0x5A#8).rspValid = true ∧ decode 0x20000000#32 = .ok .start := by decide

/-- WaitFlagsFollowThePlacementRule: WRB's last row Wc, the only one of its label with a wait; and the three cases of
its clause about SCL phases. -/
theorem witness_WaitFlagsFollowThePlacementRule :
    tableWrb.unrolled[24]? = some (⟨.Wc, .drive .dataBit (.lit LOW), .bitZero⟩, 0#3) ∧
    tableWrb.unrolled.length = 25 ∧ (vec false true false []).busy = false ∧
    (Instr.rdb = .rdb ∧ (vec false true false []).stretchPending = false) ∧
    (probed.busy = false ∧ probed.stretchPending = true) ∧ Instr.core .wack = .wackl ACK := by decide

/-- AcceptanceHandlesTheFlag: an RDB and an RDS that find the flag set. -/
theorem witness_AcceptanceHandlesTheFlag :
    probed.busy = false ∧ probed.stretchPending = true ∧ decode 0x50000000#32 = .ok .rdb ∧
    decode 0x80000000#32 = .ok .rds := by decide

/-- ConfigurationPulseOfBegin: a BEGIN accepted in a quiet state, and a state whose edge sets `od_cfg`. -/
theorem witness_ConfigurationPulseOfBegin :
    (vec true true false []).busy = false ∧ (vec true true false []).dly = 0#12 ∧
    decode 0x1020E001#32 = .ok (.begin 2#8 14#8 1#12) ∧ (⟨true, false, 0#32⟩ : Inputs).rstN = true ∧
    (((vec true true false []).acceptBegin 2#8 14#8 1#12).edge ⟨true, false, 0#32⟩).outputs.odCfg = true := by decide

end Sys2Proof.Tests
end

section
/-! PROOF. BEGIN and the bus conditions (41_config.md R103, 00_scope.md R8). -/

namespace Sys2Proof.Machine

/-- From a ready state BEGIN completes, and its one transition is acceptance, the steps B0 and B1, and completion. -/
theorem exec_begin_ready (s : State) (sda scl : Byte) (hc : HalfCycle) (hready : s.busy = false) :
    exec (.begin sda scl hc) s = .next ((beginSteps (s.acceptBegin sda scl hc)).complete 0x00#8) :=
  State.whenReady_ready s (fun s => (beginSteps (s.acceptBegin sda scl hc)).complete 0x00#8) hready

/-- The pad trace of BEGIN (41_config.md R100). -/
theorem newEvents_begin (s : State) (sda scl : Byte) (hc : HalfCycle) :
    newEvents s ((beginSteps (s.acceptBegin sda scl hc)).complete 0x00#8) = traceBegin sda scl :=
  newEvents_of_append _ _ _ (by simp [beginSteps_eq])

/-- BEGIN's only drive step releases both lines, so its conditions are those of that one change. -/
theorem conditions_traceBegin (cur : Lines) (sda scl : Byte) :
    conditions cur (traceBegin sda scl) = (conditionOf cur (HIGH, HIGH)).toList :=
  List.append_nil _

/-- Releasing both requests on one edge raises SDA under a standing SCL HIGH exactly from `(LOW, HIGH)`. -/
theorem conditionOf_released (cur : Lines) :
    conditionOf cur (HIGH, HIGH) = if cur = (LOW, HIGH) then some .stop else none := by
  obtain ⟨sda, scl⟩ := cur
  cases sda <;> cases scl <;> rfl

/-- Settles O44: the conditions of BEGIN are the one change from the standing lines to `(HIGH, HIGH)`. -/
theorem beginOnABusyLineMakesAStop : Obligations.BeginOnABusyLineMakesAStop := by
  intro s sda scl hc hready
  refine ⟨_, exec_begin_ready s sda scl hc hready, ?_⟩
  rw [newEvents_begin, conditions_traceBegin, conditionOf_released]
  by_cases hlines : s.lines = (LOW, HIGH)
  · simp [hlines]
  · simp [hlines]

end Sys2Proof.Machine
end

section
/-! PROOF. Every operation as acceptance, its steps and completion, and the steps of the two byte transfers in closed
form (40_sequencer.md R81, R86, R91, 43_byte_transfer.md R120, R125). -/

namespace Sys2Proof.Machine

/-! ## The steps of the byte transfers -/

/-- WRB's steps: the leading step, a group per bit, the last wait. The requests end at `(shreg[0], LOW)`. -/
theorem wrbSteps_eq (s : State) : wrbSteps s =
    { s with
      bit := 0#3, lastSda := dataBit s.shreg 0#3, lastScl := LOW, dly := 0#12, presc := Config.clkPerUs - 1,
      trace := s.trace ++ traceWrb s.lines s.shreg } := by
  simp [wrbSteps, bitOrder, wrbBit_eq, wrbBit_zero_eq, leadingStep, State.drive, State.lines, traceWrb, dataBits,
    dataBit]

/-- What rounds of RDB's group have made of `s` when the last was for bit `b` and `vs` are the levels they sampled. -/
def State.afterReadBits (s : State) (b : BitVec 3) (vs : List Level) : State :=
  { s with
    bit := b, lastSda := HIGH, lastScl := LOW, dly := 0#12, presc := Config.clkPerUs - 1,
    envScript := s.envScript.drop vs.length, shreg := vs.foldl shiftIn s.shreg,
    trace := s.trace ++ vs.flatMap traceReadBit }

/-- The scripted answers of `s`, as far as there are any, are the levels `vs` in order. -/
def State.scripts (s : State) (vs : List Level) : Prop :=
  ∀ k < vs.length, ∀ a, s.envScript[k]? = some a → vs[k]? = some a

/-- Rounds of RDB's group, at least one: each samples one level. -/
theorem foldl_rdbBit_eq (bits : List (BitVec 3)) (b : BitVec 3) (s : State) :
    ∃ vs : List Level, vs.length = bits.length + 1 ∧ s.scripts vs ∧
      (b :: bits).foldl rdbBit s = s.afterReadBits ((b :: bits).getLast (by simp)) vs := by
  induction bits generalizing b s with
  | nil =>
    obtain ⟨v, hv, h⟩ := rdbBit_eq s b
    refine ⟨[v], rfl, ?_, by simp [h, State.afterReadBits]⟩
    intro k hk a ha
    obtain rfl : k = 0 := by simpa using hk
    simp [hv a ha]
  | cons c bits ih =>
    obtain ⟨v, hv, h⟩ := rdbBit_eq s b
    obtain ⟨vs, hlen, hscript, hrest⟩ := ih c (rdbBit s b)
    refine ⟨v :: vs, by simp [hlen], ?_, ?_⟩
    · rintro (_ | k) hk a ha
      · simp [hv a ha]
      · exact hscript k (by simpa using hk) a (by simpa [h] using ha)
    · rw [List.foldl_cons, hrest, h]
      simp [State.afterReadBits]

/-- RDB's steps: the leading steps unless skipped, then eight sampled levels. -/
theorem rdbSteps_eq (s : State) :
    ∃ vs : List Level, vs.length = 8 ∧ s.scripts vs ∧
      rdbSteps s =
        { s with
          bit := 0#3, lastSda := HIGH, lastScl := LOW, dly := 0#12, presc := Config.clkPerUs - 1,
          envScript := s.envScript.drop 8, shreg := vs.foldl shiftIn s.shreg,
          trace := s.trace ++ traceRdb s.lines s.skip vs } := by
  obtain ⟨vs, hlen, hscript, h⟩ := foldl_rdbBit_eq [6#3, 5#3, 4#3, 3#3, 2#3, 1#3, 0#3] 7#3 (rdbLead s)
  refine ⟨vs, hlen, ?_, ?_⟩
  · cases hskip : s.skip <;> simpa [State.scripts, rdbLead_eq, hskip] using hscript
  · rw [rdbSteps, bitOrder, h, rdbLead_eq]
    cases hskip : s.skip <;> simp [State.afterReadBits, traceRdb, State.lines, hlen, hskip]

/-! ## One shape for all operations -/

/-- What acceptance of `i` may do to the state `s`: `t` is the state after it (40_sequencer.md R81, R83). -/
structure AcceptFrame (i : Instr) (s t : State) : Prop where
  op : t.op = i.opcode
  busy : t.busy = true
  lines : t.lines = s.lines
  dly : t.dly = s.dly
  smp : t.smp = s.smp
  trace : t.trace = s.trace
  cmds : t.cmds = s.cmds
  runNo : t.runNo = s.runNo
  envScript : t.envScript = s.envScript
  flag : i ≠ .rds → t.stretchPending = false
  configured : (∀ sda scl hc, i ≠ .begin sda scl hc) → t.configured = s.configured
  pins : (∀ sda scl hc, i ≠ .begin sda scl hc) → t.sdaPin = s.sdaPin ∧ t.sclPin = s.sclPin
  skip : i ≠ .rdb → t.skip = s.skip
  lvl : (∀ l, i.core ≠ .wackl l) → t.lvl = s.lvl
  shreg_bit : i ≠ .rdb → (∀ d, i ≠ .wrb d) → t.shreg = s.shreg ∧ t.bit = s.bit

theorem acceptInstr_frame (i : Instr) (s : State) : AcceptFrame i s (s.acceptInstr i) where
  op := by cases i <;> rfl
  busy := by cases i <;> rfl
  lines := by cases i <;> rfl
  dly := by cases i <;> rfl
  smp := by cases i <;> rfl
  trace := by cases i <;> rfl
  cmds := by cases i <;> rfl
  runNo := by cases i <;> rfl
  envScript := by cases i <;> rfl
  flag h := by
    cases i with
    | rds => exact absurd rfl h
    | _ => rfl
  configured h := by
    cases i with
    | begin sda scl hc => exact absurd rfl (h sda scl hc)
    | _ => rfl
  pins h := by
    cases i with
    | begin sda scl hc => exact absurd rfl (h sda scl hc)
    | _ => exact ⟨rfl, rfl⟩
  skip h := by
    cases i with
    | rdb => exact absurd rfl h
    | _ => rfl
  lvl h := by
    cases i with
    | wackl l => exact absurd rfl (h l)
    | wack => exact absurd rfl (h ACK)
    | wnack => exact absurd rfl (h NACK)
    | _ => rfl
  shreg_bit h h' := by
    cases i with
    | rdb => exact absurd rfl h
    | wrb d => exact absurd rfl (h' d)
    | _ => exact ⟨rfl, rfl⟩

/-- The steps of an operation between its acceptance and its completion. -/
def operationSteps : Instr → State → State
  | .begin _ _ _ => beginSteps
  | .start => startSteps
  | .stop => stopSteps
  | .wrb _ => wrbSteps
  | .rdb => rdbSteps
  | .wackl _ => wacklSteps
  | .wack => wacklSteps
  | .wnack => wacklSteps
  | .rack => rackSteps
  | .rds => rdsSteps

/-- What the steps of an operation may do to the state `s` in which they start: `t` is the state after them. -/
structure StepsFrame (i : Instr) (s t : State) : Prop where
  sdaPin : t.sdaPin = s.sdaPin
  sclPin : t.sclPin = s.sclPin
  halfCycleUs : t.halfCycleUs = s.halfCycleUs
  configured : t.configured = s.configured
  busy : t.busy = s.busy
  op : t.op = s.op
  lvl : t.lvl = s.lvl
  skip : t.skip = s.skip
  cmds : t.cmds = s.cmds
  runNo : t.runNo = s.runNo
  envScript : t.envScript = s.envScript.drop i.samples
  trace : s.trace <+: t.trace
  flag_kept : i ≠ .rds → t.stretchPending = s.stretchPending
  flag_set : i = .rds → t.stretchPending = true
  smp : i ≠ .rack → i ≠ .rds → t.smp = s.smp
  shreg_bit : i ≠ .rdb → (∀ d, i ≠ .wrb d) → t.shreg = s.shreg ∧ t.bit = s.bit
  rds_lines : i = .rds → t.lines = (s.lastSda, HIGH)
  dly : s.dly = 0#12 → t.dly = 0#12

theorem operationSteps_frame (i : Instr) (s : State) : StepsFrame i s (operationSteps i s) := by
  cases i with
  | begin sda scl hc => constructor <;> simp [operationSteps, beginSteps_eq, Instr.samples]
  | start => constructor <;> simp [operationSteps, startSteps_eq, Instr.samples]
  | stop => constructor <;> simp [operationSteps, stopSteps_eq, Instr.samples]
  | wrb data => constructor <;> simp [operationSteps, wrbSteps_eq, Instr.samples]
  | rdb =>
    obtain ⟨vs, -, -, h⟩ := rdbSteps_eq s
    constructor <;> simp [operationSteps, h, Instr.samples]
  | wackl level => constructor <;> simp [operationSteps, wacklSteps_eq, Instr.samples]
  | wack => constructor <;> simp [operationSteps, wacklSteps_eq, Instr.samples]
  | wnack => constructor <;> simp [operationSteps, wacklSteps_eq, Instr.samples]
  | rack => constructor <;> simp [operationSteps, rackSteps_eq, Instr.samples]
  | rds => constructor <;> simp [operationSteps, rdsSteps_eq, Instr.samples, State.lines]

/-- The state in which an accepted operation's last step and wait are over and its completion is due. -/
def State.afterSteps (s : State) (i : Instr) : State := operationSteps i (s.acceptInstr i)

@[simp] theorem State.afterSteps_op (s : State) (i : Instr) : (s.afterSteps i).op = i.opcode := by
  rw [State.afterSteps, (operationSteps_frame i _).op, (acceptInstr_frame i s).op]

/-- From a ready state every operation completes, and its one transition is acceptance, its steps, and completion with
the return value that its opcode selects. -/
theorem exec_ready (i : Instr) (s : State) (hready : s.busy = false) :
    exec i s = .next ((s.afterSteps i).complete (s.afterSteps i).result) := by
  have hguard : exec i s = s.whenReady fun u => (u.afterSteps i).complete (u.afterSteps i).result := by
    simp only [State.result, State.afterSteps_op]
    cases i <;> rfl
  rw [hguard, State.whenReady_ready s _ hready]

end Sys2Proof.Machine
end

section
/-! PROOF. The step tables run row by row, and every operation as one run of its table (40_sequencer.md R84, R85,
R91). -/

namespace Sys2Proof.Machine

/-- `RowRun d w s t`: from the position of `s` the next `d` rows of the table, `w` of them with a wait, each wait run to
its end, lead to `t`. -/
inductive RowRun : Nat → Nat → State → State → Prop where
  | refl (s : State) : RowRun 0 0 s s
  | plain {d w : Nat} {s t : State} {r : Row} : s.currentRow = some r → r.wait.holds s.bit = false →
      RowRun d w (s.perform r.action).advance t → RowRun (d + 1) w s t
  | waiting {d w : Nat} {s t : State} {r : Row} : s.currentRow = some r → r.wait.holds s.bit = true →
      RowRun d w (s.perform r.action).wait.advance t → RowRun (d + 1) (w + 1) s t

theorem RowRun.trans {d w d' w' : Nat} {s t u : State} (h : RowRun d w s t) (h' : RowRun d' w' t u) :
    RowRun (d' + d) (w' + w) s u := by
  induction h with
  | refl s => exact h'
  | plain hr hw _ ih => exact .plain hr hw (ih h')
  | waiting hr hw _ ih => exact .waiting hr hw (ih h')

/-! ## Rows in a line -/

/-- `s` with the position at a label. -/
def State.atStep (s : State) (l : StepLabel) : State := { s with step := l }

/-- A row with the whole of its wait, if it has one. -/
def State.doRow (s : State) (r : Row) : State :=
  if r.wait.holds s.bit then (s.perform r.action).wait else s.perform r.action

@[simp] theorem State.perform_op (s : State) (a : Action) : (s.perform a).op = s.op := by cases a <;> rfl
@[simp] theorem State.perform_bit (s : State) (a : Action) : (s.perform a).bit = s.bit := by cases a <;> rfl

@[simp] theorem State.doRow_op (s : State) (r : Row) : (s.doRow r).op = s.op := by
  rw [State.doRow]; split <;> simp

@[simp] theorem State.doRow_bit (s : State) (r : Row) : (s.doRow r).bit = s.bit := by
  rw [State.doRow]; split <;> simp

/-- No action reads or moves the position. -/
theorem State.perform_atStep (s : State) (l : StepLabel) (a : Action) :
    (s.atStep l).perform a = (s.perform a).atStep l := by cases a <;> rfl

theorem State.currentRow_atStep (s : State) (l : StepLabel) :
    (s.atStep l).currentRow = (tableOf s.op).rows.find? (·.label == l) := rfl

/-- One row of a run. -/
theorem RowRun.row {d w : Nat} {s u : State} {l : StepLabel} {r : Row}
    (hrow : (tableOf s.op).rows.find? (·.label == l) = some r)
    (hrest : RowRun d w ((s.doRow r).atStep l).advance u) :
    RowRun (d + 1) (w + if r.wait.holds s.bit then 1 else 0) (s.atStep l) u := by
  rw [State.doRow] at hrest
  split at hrest
  next hwait =>
    rw [if_pos hwait]
    refine .waiting hrow hwait ?_
    rwa [State.perform_atStep]
  next hwait =>
    rw [if_neg hwait]
    refine .plain hrow (Bool.not_eq_true _ ▸ hwait) ?_
    rwa [State.perform_atStep]

/-- In table `t` the rows `rs` stand in a line from label `l` to label `l'`, and with bit index `b` none of them ends a
round that another follows. -/
def StepTable.inLine (t : StepTable) (b : BitVec 3) (l' : StepLabel) : StepLabel → List Row → Bool
  | l, [] => l == l'
  | l, r :: rs =>
    t.rows.find? (·.label == l) == some r && !(t.endsGroup l && b != 0#3) && t.inLine b l' (labelAfter t.rows l) rs

theorem RowRun.rows {t : StepTable} {rs : List Row} {l l' : StepLabel} {s : State} (ht : tableOf s.op = t)
    (h : t.inLine s.bit l' l rs = true) :
    RowRun rs.length (rs.countP (·.wait.holds s.bit)) (s.atStep l) ((rs.foldl State.doRow s).atStep l') := by
  induction rs generalizing s l with
  | nil =>
    obtain rfl : l = l' := by simpa [StepTable.inLine] using h
    exact .refl _
  | cons r rs ih =>
    simp only [StepTable.inLine, Bool.and_eq_true, beq_iff_eq, Bool.not_eq_true'] at h
    obtain ⟨⟨hrow, hgroup⟩, hrest⟩ := h
    have hnext : ((s.doRow r).atStep l).advance = (s.doRow r).atStep (labelAfter t.rows l) := by
      simp [State.advance, State.atStep, ht, hgroup]
    have hrun := ih (s := s.doRow r) (by simpa using ht) (by simpa using hrest)
    rw [State.doRow_bit] at hrun
    rw [List.countP_cons, List.length_cons]
    exact .row (ht ▸ hrow) (hnext ▸ hrun)

/-! ## The operations without a per-bit group -/

section
variable {s : State}

theorem rowRun_begin (ht : tableOf s.op = tableBegin) : RowRun 2 1 (s.atStep .B0) ((beginSteps s).atStep .fin) :=
  .rows (rs := tableBegin.lead) ht rfl

theorem rowRun_start (ht : tableOf s.op = tableStart) : RowRun 3 3 (s.atStep .S1) ((startSteps s).atStep .fin) :=
  .rows (rs := tableStart.lead) ht rfl

theorem rowRun_stop (ht : tableOf s.op = tableStop) : RowRun 3 3 (s.atStep .P1) ((stopSteps s).atStep .fin) :=
  .rows (rs := tableStop.lead) ht rfl

theorem rowRun_wackl (ht : tableOf s.op = tableWackl) : RowRun 5 3 (s.atStep .K0) ((wacklSteps s).atStep .fin) :=
  .rows (rs := tableWackl.lead) ht rfl

theorem rowRun_rack (ht : tableOf s.op = tableRack) : RowRun 5 3 (s.atStep .A0) ((rackSteps s).atStep .fin) :=
  .rows (rs := tableRack.lead) ht rfl

theorem rowRun_rds (ht : tableOf s.op = tableRds) : RowRun 2 1 (s.atStep .T1) ((rdsSteps s).atStep .fin) :=
  .rows (rs := tableRds.lead) ht rfl

end

/-! ## The per-bit group -/

/-- One round of a table's per-bit group. -/
def StepTable.round (t : StepTable) (s : State) (b : BitVec 3) : State := t.perBit.foldl State.doRow (s.atBit b)

@[simp] theorem foldl_doRow_op (rs : List Row) (s : State) : (rs.foldl State.doRow s).op = s.op := by
  induction rs generalizing s with
  | nil => rfl
  | cons r rs ih => rw [List.foldl_cons, ih, State.doRow_op]

@[simp] theorem foldl_doRow_bit (rs : List Row) (s : State) : (rs.foldl State.doRow s).bit = s.bit := by
  induction rs generalizing s with
  | nil => rfl
  | cons r rs ih => rw [List.foldl_cons, ih, State.doRow_bit]

/-- The per-bit group of `t` stands in a line: the rows `init` from label `first` on, then row `r` at label `last`. -/
structure StepTable.HasGroup (t : StepTable) (first last : StepLabel) (init : List Row) (r : Row) : Prop where
  perBit : t.perBit = init ++ [r]
  groupStart : t.groupStart = first
  init_inLine : ∀ b, t.inLine b last first init = true
  last_row : t.rows.find? (·.label == last) = some r
  last_ends : t.endsGroup last = true
  last_inLine : t.inLine 0#3 .fin last [r] = true

/-- The bits from `k` down to 0. -/
def bitsFrom : Nat → List (BitVec 3)
  | 0 => [0#3]
  | k + 1 => BitVec.ofNat 3 (k + 1) :: bitsFrom k

theorem bitOrder_eq_bitsFrom : bitOrder = bitsFrom 7 := rfl

section
variable {t : StepTable} {first last : StepLabel} {init : List Row} {r : Row} {s : State}

/-- The last row of a round that another follows: the position returns to the group's first row (40_sequencer.md
R85). -/
theorem RowRun.endOfRound (hg : t.HasGroup first last init r) (ht : tableOf s.op = t) (hb : s.bit ≠ 0#3) :
    RowRun 1 (if r.wait.holds s.bit then 1 else 0) (s.atStep last)
      (((s.doRow r).atBit (s.bit - 1#3)).atStep first) := by
  have hnext : ((s.doRow r).atStep last).advance = ((s.doRow r).atBit (s.bit - 1#3)).atStep first := by
    simp [State.advance, State.atStep, State.atBit, ht, hg.last_ends, hg.groupStart, hb]
  have h := RowRun.row (ht ▸ hg.last_row) (.refl ((s.doRow r).atStep last).advance)
  simpa [hnext] using h

/-- A round for a bit other than 0 ends at the start of the next bit's round. -/
theorem RowRun.round (hg : t.HasGroup first last init r) (ht : tableOf s.op = t) {b : BitVec 3} (hb : b ≠ 0#3) :
    RowRun t.perBit.length (t.perBit.countP (·.wait.holds b)) ((s.atBit b).atStep first)
      (((t.round s b).atBit (b - 1#3)).atStep first) := by
  have hinit : RowRun init.length (init.countP (·.wait.holds b)) ((s.atBit b).atStep first)
      ((init.foldl State.doRow (s.atBit b)).atStep last) := .rows (s := s.atBit b) ht (hg.init_inLine b)
  have hlast := RowRun.endOfRound (s := init.foldl State.doRow (s.atBit b)) hg (by simpa using ht) (by simpa using hb)
  simpa [StepTable.round, hg.perBit, Nat.add_comm, List.countP_cons] using hinit.trans hlast

/-- The round of bit 0 ends the table. -/
theorem RowRun.lastRound (hg : t.HasGroup first last init r) (ht : tableOf s.op = t) :
    RowRun t.perBit.length (t.perBit.countP (·.wait.holds 0#3)) ((s.atBit 0#3).atStep first)
      ((t.round s 0#3).atStep .fin) := by
  have hinit : RowRun init.length (init.countP (·.wait.holds 0#3)) ((s.atBit 0#3).atStep first)
      ((init.foldl State.doRow (s.atBit 0#3)).atStep last) := .rows (s := s.atBit 0#3) ht (hg.init_inLine 0#3)
  have hlast := RowRun.rows (s := init.foldl State.doRow (s.atBit 0#3)) (t := t) (rs := [r]) (by simpa using ht)
    (by simpa using hg.last_inLine)
  simpa [StepTable.round, hg.perBit, Nat.add_comm, List.countP_cons] using hinit.trans hlast

/-- The rounds for the bits from `k` down to 0 (40_sequencer.md R85). -/
theorem RowRun.rounds (hg : t.HasGroup first last init r) (ht : tableOf s.op = t) (k : Nat) (hk : k < 8) :
    RowRun (t.perBit.length * (k + 1)) ((bitsFrom k).map fun b => t.perBit.countP (·.wait.holds b)).sum
      ((s.atBit (BitVec.ofNat 3 k)).atStep first) (((bitsFrom k).foldl t.round s).atStep .fin) := by
  induction k generalizing s with
  | zero => simpa [bitsFrom] using RowRun.lastRound hg ht
  | succ k ih =>
    have hb : BitVec.ofNat 3 (k + 1) ≠ 0#3 := by
      rw [ne_eq, ← BitVec.toNat_inj, BitVec.toNat_ofNat, BitVec.toNat_ofNat]
      omega
    have hpred : BitVec.ofNat 3 (k + 1) - 1#3 = BitVec.ofNat 3 k := by simp [BitVec.ofNat_add]
    have hone := RowRun.round hg ht hb
    have hrest := ih (s := t.round s (BitVec.ofNat 3 (k + 1))) (by simpa [StepTable.round] using ht) (by omega)
    rw [hpred] at hone
    simpa [bitsFrom, Nat.mul_add, Nat.add_comm] using hone.trans hrest

end

theorem tableWrb_hasGroup : tableWrb.HasGroup .Wa .Wc
    [⟨.Wa, .drive .dataBit (.lit LOW), .yes⟩, ⟨.Wb, .drive .dataBit (.lit HIGH), .yes⟩]
    ⟨.Wc, .drive .dataBit (.lit LOW), .bitZero⟩ :=
  ⟨rfl, rfl, fun _ => rfl, rfl, rfl, rfl⟩

theorem tableRdb_hasGroup : tableRdb.HasGroup .Ra .Rb
    [⟨.Ra, .drive (.lit HIGH) (.lit HIGH), .yes⟩, ⟨.Rs, .shiftSda, .no⟩]
    ⟨.Rb, .drive (.lit HIGH) (.lit LOW), .yes⟩ :=
  ⟨rfl, rfl, fun _ => rfl, rfl, rfl, rfl⟩

theorem tableWrb_round : tableWrb.round = wrbBit := by
  funext s b
  by_cases hb : b = 0#3
  · subst hb; rfl
  · have hb' : (b == 0#3) = false := by simpa using hb
    simp [StepTable.round, tableWrb, State.doRow, WaitFlag.holds, wrbBit, State.perform, State.level, hb, hb']

theorem tableRdb_round : tableRdb.round = rdbBit := rfl

/-! ## Every operation -/

theorem State.atBit_self (s : State) (b : BitVec 3) (hbit : s.bit = b) : s.atBit b = s := by
  subst hbit; rfl

theorem rowRun_wrb {s : State} (ht : tableOf s.op = tableWrb) (hbit : s.bit = 7#3) :
    RowRun 25 17 (s.atStep .W0) ((wrbSteps s).atStep .fin) := by
  have hlead : RowRun 1 0 (s.atStep .W0) ((leadingStep s).atStep .Wa) := .rows (rs := tableWrb.lead) ht rfl
  have hrounds := RowRun.rounds (s := leadingStep s) tableWrb_hasGroup ht 7 (by decide)
  rw [State.atBit_self (leadingStep s) _ hbit, tableWrb_round, ← bitOrder_eq_bitsFrom] at hrounds
  exact hlead.trans hrounds

theorem rowRun_rdbRounds {s : State} (ht : tableOf s.op = tableRdb) (hbit : s.bit = 7#3) :
    RowRun 24 16 (s.atStep .Ra) ((bitOrder.foldl rdbBit s).atStep .fin) := by
  have hrounds := RowRun.rounds tableRdb_hasGroup ht 7 (by decide)
  rwa [State.atBit_self s _ hbit, tableRdb_round, ← bitOrder_eq_bitsFrom] at hrounds

/-- RDB with its leading steps (43_byte_transfer.md R125). -/
theorem rowRun_rdb {s : State} (ht : tableOf s.op = tableRdb) (hbit : s.bit = 7#3) (hskip : s.skip = false) :
    RowRun 26 17 (s.atStep .R0) ((rdbSteps s).atStep .fin) := by
  have hlead : RowRun 2 1 (s.atStep .R0) ((((leadingStep s).drive HIGH LOW).wait).atStep .Ra) :=
    .rows (rs := tableRdb.lead) ht rfl
  rw [rdbSteps, rdbLead, hskip]
  exact hlead.trans (rowRun_rdbRounds ht hbit)

/-- RDB after an RDS starts at Ra (43_byte_transfer.md R128). -/
theorem rowRun_rdb_skip {s : State} (ht : tableOf s.op = tableRdb) (hbit : s.bit = 7#3) (hskip : s.skip = true) :
    RowRun 24 16 (s.atStep .Ra) ((rdbSteps s).atStep .fin) := by
  rw [rdbSteps, rdbLead, hskip]
  exact rowRun_rdbRounds ht hbit

/-- RDB starts at R0, or at Ra when it finds the flag set. -/
theorem rowRun_acceptRdb (s : State) :
    RowRun (Instr.rdb.driveSteps s.stretchPending + 8) (Instr.rdb.waits s.stretchPending) s.acceptRdb
      ((rdbSteps s.acceptRdb).atStep .fin) := by
  cases hflag : s.stretchPending with
  | false =>
    have hfirst : s.acceptRdb.atStep .R0 = s.acceptRdb := by simp [State.acceptRdb, State.atStep, hflag]
    have hrun := rowRun_rdb (s := s.acceptRdb) rfl rfl hflag
    rwa [hfirst] at hrun
  | true =>
    have hfirst : s.acceptRdb.atStep .Ra = s.acceptRdb := by simp [State.acceptRdb, State.atStep, hflag]
    have hrun := rowRun_rdb_skip (s := s.acceptRdb) rfl rfl hflag
    rwa [hfirst] at hrun

/-- From acceptance on, the table of every operation runs through its steps: R200's numbers of rows and waits. -/
theorem rowRun_operation (s : State) (i : Instr) :
    RowRun (i.driveSteps s.stretchPending + i.otherSteps) (i.waits s.stretchPending) (s.acceptInstr i)
      ((s.afterSteps i).atStep .fin) := by
  cases i with
  | begin sda scl hc => exact rowRun_begin (s := s.acceptBegin sda scl hc) rfl
  | start => exact rowRun_start (s := s.acceptPlain opSTART .S1) rfl
  | stop => exact rowRun_stop (s := s.acceptPlain opSTOP .P1) rfl
  | wrb data => exact rowRun_wrb (s := s.acceptWrb data) rfl rfl
  | rdb => exact rowRun_acceptRdb s
  | wackl level => exact rowRun_wackl (s := s.acceptWackl level) rfl
  | wack => exact rowRun_wackl (s := s.acceptWackl ACK) rfl
  | wnack => exact rowRun_wackl (s := s.acceptWackl NACK) rfl
  | rack => exact rowRun_rack (s := s.acceptPlain opRACK .A0) rfl
  | rds => exact rowRun_rds (s := s.acceptRds) rfl

end Sys2Proof.Machine
end

section
/-! PROOF. The clock-level machine runs a table row by row, each wait in `half_cycle_us × CLK_PER_US` edges
(40_sequencer.md R84, R86, 60_exceptions.md R170, 70_reset_and_hazards.md R200). -/

namespace Sys2Proof.Machine

/-! ## Edges up to the pulses -/

/-- `n` edges with `busy = 1` lead from `s` to `t`, up to the two pulses, which the next edge clears. -/
def Reaches (clk n : Nat) (s t : State) : Prop := (State.busyEdges clk n s).idle = t.idle

theorem State.busyEdge_idle (clk : Nat) (s : State) : s.idle.busyEdge clk = s.busyEdge clk := rfl

theorem State.advance_idle (s : State) : s.idle.advance = s.advance.idle := by
  simp only [State.advance, apply_ite State.idle]
  rfl

theorem State.perform_idle (s : State) (a : Action) : (s.idle.perform a).idle = (s.perform a).idle := by
  cases a <;> rfl

theorem busyEdges_idle (clk n : Nat) (s : State) :
    (State.busyEdges clk n s.idle).idle = (State.busyEdges clk n s).idle := by
  cases n <;> rfl

theorem busyEdges_add (clk m n : Nat) (s : State) :
    State.busyEdges clk (m + n) s = State.busyEdges clk n (State.busyEdges clk m s) := by
  induction m generalizing s with
  | zero => rw [Nat.zero_add]; rfl
  | succ m ih => rw [Nat.succ_add]; exact ih _

theorem Reaches.refl (clk : Nat) (s : State) : Reaches clk 0 s s := rfl

theorem Reaches.trans {clk m n : Nat} {s t u : State} (h : Reaches clk m s t) (h' : Reaches clk n t u) :
    Reaches clk (m + n) s u := by
  unfold Reaches at *
  rw [busyEdges_add, ← busyEdges_idle, h, busyEdges_idle, h']

theorem Reaches.edge {clk : Nat} {s t : State} (h : (s.busyEdge clk).idle = t.idle) : Reaches clk 1 s t := h

/-! ## A wait -/

/-- `s` with the delay counter at `d` microseconds and `p` cycles. -/
def State.counting (s : State) (d : HalfCycle) (p : Nat) : State := { s with dly := d, presc := p }

section
variable (clk : Nat) (s : State)

/-- A clock cycle within a microsecond. -/
theorem Reaches.cycle {d : HalfCycle} (p : Nat) (hd : d ≠ 0#12) :
    Reaches clk 1 (s.counting d (p + 1)) (s.counting d p) :=
  .edge (by simp [State.busyEdge, State.countEdge, State.idle, State.counting, hd])

/-- The clock cycles of a microsecond but its last. -/
theorem Reaches.cycles {d : HalfCycle} (p : Nat) (hd : d ≠ 0#12) :
    Reaches clk p (s.counting d p) (s.counting d 0) := by
  induction p with
  | zero => exact .refl clk _
  | succ p ih => simpa [Nat.add_comm] using (Reaches.cycle clk s p hd).trans ih

/-- The last cycle of a microsecond that is not the wait's last. -/
theorem Reaches.nextMicrosecond {d : HalfCycle} (hd : d ≠ 0#12) (hd' : d - 1#12 ≠ 0#12) :
    Reaches clk 1 (s.counting d 0) (s.counting (d - 1#12) (clk - 1)) :=
  .edge (by simp [State.busyEdge, State.countEdge, State.idle, State.counting, hd, hd'])

/-- The last cycle of a wait: the position moves on. -/
theorem Reaches.lastCycle : Reaches clk 1 (s.counting 1#12 0) (s.counting 0#12 (clk - 1)).advance := by
  have hedge : (s.counting 1#12 0).busyEdge clk = (s.counting 0#12 (clk - 1)).idle.advance := by
    simp [State.busyEdge, State.countEdge, State.idle, State.counting]
  refine .edge ?_
  rw [hedge, State.advance_idle]
  rfl

/-- A wait of `d` microseconds takes `d × clk` edges, at the last of which the position moves on (60_exceptions.md
R170). -/
theorem Reaches.elapse (hclk : 0 < clk) {d : HalfCycle} (hd : d ≠ 0#12) :
    Reaches clk (d.toNat * clk) (s.counting d (clk - 1)) (s.elapse clk).advance := by
  have hmicro {d : HalfCycle} {t : State} (hd : d ≠ 0#12) (h : Reaches clk 1 (s.counting d 0) t) :
      Reaches clk clk (s.counting d (clk - 1)) t := by
    simpa [Nat.sub_add_cancel hclk] using (Reaches.cycles clk s (clk - 1) hd).trans h
  induction hn : d.toNat generalizing d with
  | zero => exact absurd (BitVec.eq_of_toNat_eq hn) hd
  | succ n ih =>
    by_cases hlast : d = 1#12
    · subst hlast
      obtain rfl : n = 0 := by simpa using hn.symm
      rw [Nat.zero_add, Nat.one_mul]
      exact hmicro hd (Reaches.lastCycle clk s)
    · have hd' : d - 1#12 ≠ 0#12 := by bv_omega
      have hrest := ih hd' (by bv_omega)
      rw [Nat.succ_mul, Nat.add_comm]
      exact (hmicro hd (Reaches.nextMicrosecond clk s hd hd')).trans hrest

end

/-! ## Rows and tables -/

@[simp] theorem State.perform_busy (s : State) (a : Action) : (s.perform a).busy = s.busy := by cases a <;> rfl
@[simp] theorem State.perform_dly (s : State) (a : Action) : (s.perform a).dly = s.dly := by cases a <;> rfl
@[simp] theorem State.perform_halfCycleUs (s : State) (a : Action) : (s.perform a).halfCycleUs = s.halfCycleUs := by
  cases a <;> rfl

@[simp] theorem State.advance_busy (s : State) : s.advance.busy = s.busy := by
  obtain ⟨b, l, h⟩ := s.advance_cases; rw [h]
@[simp] theorem State.advance_dly (s : State) : s.advance.dly = s.dly := by
  obtain ⟨b, l, h⟩ := s.advance_cases; rw [h]
@[simp] theorem State.advance_halfCycleUs (s : State) : s.advance.halfCycleUs = s.halfCycleUs := by
  obtain ⟨b, l, h⟩ := s.advance_cases; rw [h]

section
variable {s : State} {r : Row}

/-- The edge that does a row. -/
theorem State.busyEdge_row (clk : Nat) (hd : s.dly = 0#12) (hr : s.currentRow = some r) :
    s.busyEdge clk = s.idle.rowEdge clk r := by
  obtain ⟨hd', -⟩ | ⟨r', -, hr', h⟩ | ⟨-, hr', -⟩ := s.busyEdge_cases clk
  · exact absurd hd hd'
  · rw [h, Option.some.inj (hr.symm.trans hr')]
  · simp [hr] at hr'

theorem Reaches.plain (clk : Nat) (hd : s.dly = 0#12) (hr : s.currentRow = some r)
    (hw : r.wait.holds s.bit = false) : Reaches clk 1 s (s.perform r.action).advance := by
  refine .edge ?_
  rw [State.busyEdge_row clk hd hr]
  simp only [State.rowEdge, State.perform_bit, State.idle_bit, hw, Bool.false_eq_true, if_false]
  rw [← State.advance_idle, State.perform_idle, State.advance_idle]

theorem State.perform_startWait_idle (clk : Nat) (s : State) (a : Action) :
    ((s.idle.perform a).startWait clk).idle = ((s.perform a).startWait clk).idle := by
  cases a <;> rfl

/-- The edge that does a row with a wait: a wait of length zero is passed over (92_eei_decisions.md D22). -/
theorem State.busyEdge_waitingRow (clk : Nat) (hd : s.dly = 0#12) (hr : s.currentRow = some r)
    (hw : r.wait.holds s.bit = true) :
    (s.busyEdge clk).idle =
      (if s.halfCycleUs = 0#12 then ((s.perform r.action).startWait clk).advance
       else (s.perform r.action).startWait clk).idle := by
  rw [State.busyEdge_row clk hd hr]
  simp only [State.rowEdge, State.perform_bit, State.idle_bit, hw, if_true, State.startWait_dly,
    State.perform_halfCycleUs, State.idle_halfCycleUs]
  split
  · rw [← State.advance_idle, State.perform_startWait_idle, State.advance_idle]
  · exact State.perform_startWait_idle clk s r.action

/-- A row with a wait, of `half_cycle_us` microseconds or of length zero. -/
theorem Reaches.waiting (hd : s.dly = 0#12) (hr : s.currentRow = some r) (hw : r.wait.holds s.bit = true) :
    Reaches Config.clkPerUs (s.halfCycleUs.toNat * Config.clkPerUs + 1) s (s.perform r.action).wait.advance := by
  have hrow := State.busyEdge_waitingRow Config.clkPerUs hd hr hw
  by_cases hhc : s.halfCycleUs = 0#12
  · have hzero : (s.perform r.action).startWait Config.clkPerUs = (s.perform r.action).wait := by
      simp [State.wait, State.elapse, State.startWait, hhc]
    rw [if_pos hhc, hzero] at hrow
    rw [hhc, BitVec.toNat_zero, Nat.zero_mul]
    exact .edge hrow
  · rw [if_neg hhc] at hrow
    have hwait := Reaches.elapse Config.clkPerUs ((s.perform r.action).startWait Config.clkPerUs) (Nat.succ_pos _) hhc
    have hcount : ((s.perform r.action).startWait Config.clkPerUs).counting s.halfCycleUs (Config.clkPerUs - 1) =
        (s.perform r.action).startWait Config.clkPerUs := by
      simp [State.counting, State.startWait]
    rw [hcount] at hwait
    rw [Nat.add_comm]
    exact (Reaches.edge hrow).trans hwait

end

/-- Edges that a run of rows takes: one for each row, and the waits. -/
theorem RowRun.reaches {d w : Nat} {s t : State} (h : RowRun d w s t) (hd : s.dly = 0#12) :
    Reaches Config.clkPerUs (w * (s.halfCycleUs.toNat * Config.clkPerUs) + d) s t := by
  induction h with
  | refl s => simpa using Reaches.refl _ s
  | plain hr hw _ ih =>
    have hrest := ih (by simpa using hd)
    have h := (Reaches.plain Config.clkPerUs hd hr hw).trans hrest
    simp only [State.advance_halfCycleUs, State.perform_halfCycleUs] at h
    rwa [Nat.add_comm, Nat.add_assoc] at h
  | waiting hr hw _ ih =>
    have hrest := ih (by simp)
    have h := (Reaches.waiting hd hr hw).trans hrest
    simp only [State.advance_halfCycleUs, State.wait_halfCycleUs, State.perform_halfCycleUs] at h
    rwa [Nat.add_add_add_comm, Nat.add_comm 1, Nat.add_comm _ (_ * _), ← Nat.succ_mul] at h

/-! ## From the accepting edge to the completion edge -/

@[simp] theorem State.countEdge_busy (clk : Nat) (s : State) : (s.countEdge clk).busy = s.busy := by
  simp only [State.countEdge]
  split_ifs <;> simp

@[simp] theorem State.rowEdge_busy (clk : Nat) (s : State) (r : Row) : (s.rowEdge clk r).busy = s.busy := by
  simp only [State.rowEdge]
  split_ifs <;> simp

/-- No edge but the accepting one sets `busy`. -/
theorem busy_of_busyEdge (clk : Nat) (s : State) (h : (s.busyEdge clk).busy = true) : s.busy = true := by
  obtain ⟨-, e⟩ | ⟨r, -, -, e⟩ | ⟨-, -, e⟩ := s.busyEdge_cases clk
  · simpa [e] using h
  · simpa [e] using h
  · simp [e] at h

theorem busy_of_busyEdges (clk n : Nat) (s : State) (h : (State.busyEdges clk n s).busy = true) : s.busy = true := by
  induction n generalizing s with
  | zero => exact h
  | succ n ih => exact busy_of_busyEdge clk s (ih _ h)

/-- While the operation is in progress the host changes nothing (40_sequencer.md R82). -/
theorem systemEdges_eq_busyEdges (n : Nat) (s : State) (h : (State.busyEdges Config.clkPerUs n s).busy = true) :
    s.systemEdges n = State.busyEdges Config.clkPerUs n s := by
  induction n generalizing s with
  | zero => rfl
  | succ n ih =>
    have hbusy : s.busy = true := busy_of_busyEdges _ (n + 1) s h
    rw [State.systemEdges, State.systemEdge_busy s hbusy]
    exact ih _ h

/-- The accepting edge takes the host's word off its list (40_sequencer.md R81, 70_reset_and_hazards.md R187). -/
theorem State.systemEdge_accept {s : State} {w : CmdWord} {rest : List CmdWord} {i : Instr} (hready : s.busy = false)
    (hcmds : s.cmds = w :: rest) (hdec : decode w = .ok i) :
    s.systemEdge = { s with cmds := rest }.acceptInstr i := by
  have hidle (u : State) : u.idle.acceptInstr i = u.acceptInstr i := by cases i <;> rfl
  simp [State.systemEdge, State.hostTakes, State.hostInputs, State.edge, State.edgeAt, State.acceptEdge, hready, hcmds,
    hdec, hidle]

/-- No table has a row at `fin`. -/
theorem State.currentRow_fin (s : State) : (s.atStep .fin).currentRow = none := by
  rw [State.currentRow_atStep, tableOf]
  split_ifs <;> rfl

/-- The completion edge, at the end of the table. -/
theorem State.busyEdge_fin (clk : Nat) (s : State) (hd : s.dly = 0#12) :
    (s.atStep .fin).busyEdge clk = s.complete s.result := by
  obtain ⟨hd', -⟩ | ⟨r, -, hr, -⟩ | ⟨-, -, h⟩ := (s.atStep .fin).busyEdge_cases clk
  · exact absurd hd hd'
  · simp [State.currentRow_fin] at hr
  · exact h

/-- Every accepted operation, run from edge to edge, ends as its meaning says after R200's number of cycles. -/
theorem systemEdges_acceptInstr (s : State) (i : Instr) (hd : s.dly = 0#12) :
    (s.acceptInstr i).systemEdges
      (i.waits s.stretchPending * (s.waitLength i * Config.clkPerUs) + (i.driveSteps s.stretchPending + i.otherSteps) +
        1) =
      (s.afterSteps i).complete (s.afterSteps i).result := by
  have hframe := operationSteps_frame i (s.acceptInstr i)
  have haccept := acceptInstr_frame i s
  have hd' : (s.acceptInstr i).dly = 0#12 := haccept.dly.trans hd
  have hlength : (s.acceptInstr i).halfCycleUs.toNat = s.waitLength i := by cases i <;> rfl
  have hrun := (rowRun_operation s i).reaches hd'
  rw [hlength] at hrun
  generalize i.waits s.stretchPending * (s.waitLength i * Config.clkPerUs) +
    (i.driveSteps s.stretchPending + i.otherSteps) = n at hrun ⊢
  have hbusy : (State.busyEdges Config.clkPerUs n (s.acceptInstr i)).busy = true :=
    (congrArg State.busy hrun).trans (hframe.busy.trans haccept.busy)
  rw [State.systemEdges_add, systemEdges_eq_busyEdges n _ hbusy]
  change State.systemEdge _ = _
  rw [State.systemEdge_busy _ hbusy, ← State.busyEdge_idle, hrun, State.busyEdge_idle]
  exact State.busyEdge_fin _ _ (hframe.dly hd')

/-- Settles O52: the accepting edge, then the run of the table, then the completion edge. -/
theorem clockMachineRunsEachOperation : Obligations.ClockMachineRunsEachOperation := by
  intro s w rest i hready hd hcmds hdec
  refine ⟨_, exec_ready i { s with cmds := rest } hready, ?_⟩
  have hcycles : s.cycles Config.clkPerUs i =
      1 + (i.waits s.stretchPending * (s.waitLength i * Config.clkPerUs) +
        (i.driveSteps s.stretchPending + i.otherSteps) + 1) := by
    rw [State.cycles]
    omega
  rw [hcycles, State.systemEdges_add]
  change s.systemEdge.systemEdges _ = _
  rw [State.systemEdge_accept hready hcmds hdec]
  exact systemEdges_acceptInstr { s with cmds := rest } i hd

end Sys2Proof.Machine
end

section
/-! PROOF. The invariants of 10_state.md: the requests are what the trace last requested (R16), and between operations
nothing runs (R20, R27, R128). -/

namespace Sys2Proof.Machine

/-! ## Request tracking -/

/-- The requests are the levels most recently requested on each line, from released lines on (10_state.md R16). -/
def State.Tracks (s : State) : Prop := linesAfter (HIGH, HIGH) s.trace = s.lines

/-- Tracking is about the trace and the requests alone. -/
theorem State.Tracks.congr {s t : State} (h : s.Tracks) (htrace : t.trace = s.trace) (hlines : t.lines = s.lines) :
    t.Tracks := by
  rw [State.Tracks, htrace, hlines]
  exact h

/-- It is kept when the requests change exactly as the new events request. -/
theorem State.Tracks.append {s t : State} (h : s.Tracks) (es : PadTrace) (htrace : t.trace = s.trace ++ es)
    (hlines : t.lines = linesAfter s.lines es) : t.Tracks := by
  rw [State.Tracks, htrace, hlines, linesAfter_append, h]

theorem State.Tracks.perform {s : State} (h : s.Tracks) (a : Action) : (s.perform a).Tracks := by
  cases a <;> exact h.append [_] rfl rfl

theorem State.Tracks.startWait {s : State} (h : s.Tracks) (clk : Nat) : (s.startWait clk).Tracks :=
  h.append [.wait] rfl rfl

theorem State.Tracks.wait {s : State} (h : s.Tracks) : s.wait.Tracks := h.append [.wait] rfl rfl

theorem State.Tracks.advance {s : State} (h : s.Tracks) : s.advance.Tracks := by
  obtain ⟨b, l, e⟩ := s.advance_cases
  exact h.congr (by rw [e]) (by rw [e]; rfl)

theorem RowRun.tracks {d w : Nat} {s t : State} (h : RowRun d w s t) (hs : s.Tracks) : t.Tracks := by
  induction h with
  | refl s => exact hs
  | plain _ _ _ ih => exact ih (hs.perform _).advance
  | waiting _ _ _ ih => exact ih (hs.perform _).wait.advance

theorem State.Tracks.acceptInstr {s : State} (h : s.Tracks) (i : Instr) : (s.acceptInstr i).Tracks := by
  cases i <;> exact h.congr rfl rfl

/-- A whole operation is a run of its table. -/
theorem State.Tracks.afterSteps {s : State} (h : s.Tracks) (i : Instr) : (s.afterSteps i).Tracks :=
  ((rowRun_operation s i).tracks (h.acceptInstr i)).congr rfl rfl

theorem State.Tracks.countEdge {s : State} (h : s.Tracks) (clk : Nat) : (s.countEdge clk).Tracks := by
  simp only [State.countEdge]
  split_ifs
  · exact State.Tracks.advance (h.congr rfl rfl)
  · exact h.congr rfl rfl
  · exact h.congr rfl rfl

theorem State.Tracks.rowEdge {s : State} (h : s.Tracks) (clk : Nat) (r : Row) : (s.rowEdge clk r).Tracks := by
  simp only [State.rowEdge]
  split_ifs
  · exact ((h.perform _).startWait clk).advance
  · exact (h.perform _).startWait clk
  · exact (h.perform _).advance

/-- One clock edge inside an operation. -/
theorem State.Tracks.busyEdge {s : State} (h : s.Tracks) (clk : Nat) : (s.busyEdge clk).Tracks := by
  have hidle : s.idle.Tracks := h.congr rfl rfl
  obtain ⟨-, e⟩ | ⟨r, -, -, e⟩ | ⟨-, -, e⟩ := s.busyEdge_cases clk <;> rw [e]
  · exact hidle.countEdge clk
  · exact hidle.rowEdge clk r
  · exact hidle.congr rfl rfl

/-- Settles O36: nothing has been requested yet and both lines are released. -/
theorem resetTracksRequests : Obligations.ResetTracksRequests := rfl

/-- Settles O35: whatever a step is, one clock edge, an idle cycle or a whole operation, each of its parts keeps the
tracking. -/
theorem stepKeepsRequestTracking : Obligations.StepKeepsRequestTracking := by
  intro s t (hs : s.Tracks) hstep
  change t.Tracks
  obtain ⟨-, e⟩ | ⟨-, -, e⟩ | ⟨w, rest, i, hready, -, -, -, e⟩ | ⟨w, rest, i, r, -, -, -, -, e⟩ |
    ⟨w, rest, r, -, -, -, e⟩ := step_cases s <;> rw [e] at hstep
  · cases hstep
    exact hs.busyEdge _
  · cases hstep
    exact hs.congr rfl rfl
  · rw [exec_ready i { s with cmds := rest } hready] at hstep
    cases hstep
    have hs' : { s with cmds := rest }.Tracks := hs.congr rfl rfl
    exact (hs'.afterSteps i).congr rfl rfl
  · cases hstep
  · cases hstep

end Sys2Proof.Machine
end

section
/-! PROOF. What operations leave alone: the flag (10_state.md R19, R20, 40_sequencer.md R83), the quiet state between
operations (R27, R128), the registers an operation does not name (R22 to R26) and the pin identifiers (R11, R12). -/

namespace Sys2Proof.Machine

/-! ## The flag and the quiet state -/

/-- RDS alone sets the flag, at its sample step; every other command clears it at acceptance. -/
theorem State.afterSteps_flag (s : State) (i : Instr) : (s.afterSteps i).stretchPending = true ↔ i = .rds := by
  have hsteps := operationSteps_frame i (s.acceptInstr i)
  by_cases hrds : i = .rds
  · exact iff_of_true (hsteps.flag_set hrds) hrds
  · have hclear := (hsteps.flag_kept hrds).trans ((acceptInstr_frame i s).flag hrds)
    exact iff_of_false (by rw [State.afterSteps, hclear]; exact Bool.false_ne_true) hrds

/-- Settles O25: completion leaves the flag as the steps left it. -/
theorem flagIsSetByRdsAlone : Obligations.FlagIsSetByRdsAlone :=
  fun i s hready => ⟨_, exec_ready i s hready, s.afterSteps_flag i⟩

/-- An operation that starts with no wait in progress ends in a quiet state. -/
theorem quiet_complete_afterSteps (s : State) (i : Instr) (hd : s.dly = 0#12) (v : Byte) :
    ((s.afterSteps i).complete v).Quiet := by
  have hsteps := operationSteps_frame i (s.acceptInstr i)
  refine ⟨rfl, hsteps.dly ((acceptInstr_frame i s).dly.trans hd), fun hflag => ?_⟩
  have hrds : i = .rds := (s.afterSteps_flag i).mp hflag
  refine ⟨?_, congrArg Prod.snd (hsteps.rds_lines hrds)⟩
  rw [State.complete_op, State.afterSteps_op, hrds, Instr.opcode]

/-- Settles O37: from a quiet state a step is an idle cycle, which changes no register of the invariant, or a whole
operation. -/
theorem stepKeepsQuiet : Obligations.StepKeepsQuiet := by
  intro s t ⟨hready, hd, hflag⟩ hstep
  obtain ⟨hbusy, -⟩ | ⟨-, -, e⟩ | ⟨w, rest, i, -, -, -, -, e⟩ | ⟨w, rest, i, r, -, -, -, -, e⟩ |
    ⟨w, rest, r, -, -, -, e⟩ := step_cases s
  · exact absurd hbusy (by simp [hready])
  · cases e.symm.trans hstep
    exact ⟨hready, hd, hflag⟩
  · rw [e, exec_ready i { s with cmds := rest } hready] at hstep
    cases hstep
    exact quiet_complete_afterSteps { s with cmds := rest } i hd _
  · cases e.symm.trans hstep
  · cases e.symm.trans hstep

/-! ## The frame -/

/-- Settles O27: what acceptance leaves alone and then the steps; completion writes none of these registers. -/
theorem operationsLeaveOtherStateAlone : Obligations.OperationsLeaveOtherStateAlone := by
  intro i s hready
  have haccept := acceptInstr_frame i s
  have hsteps := operationSteps_frame i (s.acceptInstr i)
  have hshreg_bit (h : i ≠ .rdb) (h' : ∀ d, i ≠ .wrb d) :
      (s.afterSteps i).shreg = s.shreg ∧ (s.afterSteps i).bit = s.bit := by
    obtain ⟨hshreg, hbit⟩ := hsteps.shreg_bit h h'
    obtain ⟨hshreg', hbit'⟩ := haccept.shreg_bit h h'
    exact ⟨hshreg.trans hshreg', hbit.trans hbit'⟩
  have hlastSda (h : i = .rds) : (s.afterSteps i).lastSda = s.lastSda :=
    (congrArg Prod.fst (hsteps.rds_lines h)).trans (congrArg Prod.fst haccept.lines)
  exact ⟨_, exec_ready i s hready, hsteps.cmds.trans haccept.cmds, hsteps.runNo.trans haccept.runNo,
    haccept.trace ▸ hsteps.trace, s.afterSteps_op i, fun h => hsteps.configured.trans (haccept.configured h),
    fun h => hsteps.skip.trans (haccept.skip h), fun h => hsteps.lvl.trans (haccept.lvl h),
    fun h h' => (hsteps.smp h h').trans haccept.smp, hshreg_bit, hlastSda, haccept.envScript ▸ hsteps.envScript⟩

/-! ## The pin identifiers -/

/-- `s` with other pin identifiers. -/
def State.withPins (a b : Byte) (s : State) : State := { s with sdaPin := a, sclPin := b }

section
variable (a b : Byte) (s : State)

/-- No round of RDB looks at the identifiers. -/
theorem foldl_rdbBit_withPins (bits : List (BitVec 3)) :
    bits.foldl rdbBit (s.withPins a b) = (bits.foldl rdbBit s).withPins a b :=
  List.foldl_hom (State.withPins a b) fun _ _ => rfl

theorem rdbLead_withPins : rdbLead (s.withPins a b) = (rdbLead s).withPins a b := by
  rw [rdbLead, rdbLead, apply_ite (State.withPins a b)]
  rfl

variable {i : Instr} (hi : ∀ sda scl hc, i ≠ .begin sda scl hc)
include hi

/-- BEGIN's configuration step alone shows the identifiers. -/
theorem operationSteps_withPins : operationSteps i (s.withPins a b) = (operationSteps i s).withPins a b := by
  cases i with
  | begin sda scl hc => exact absurd rfl (hi sda scl hc)
  | wrb data =>
    simp only [operationSteps, wrbSteps_eq]
    rfl
  | rdb =>
    simp only [operationSteps, rdbSteps, rdbLead_withPins]
    exact foldl_rdbBit_withPins a b _ bitOrder
  | start => rfl
  | stop => rfl
  | wackl level => rfl
  | wack => rfl
  | wnack => rfl
  | rack => rfl
  | rds => rfl

theorem acceptInstr_withPins : (s.withPins a b).acceptInstr i = (s.acceptInstr i).withPins a b := by
  cases i with
  | begin sda scl hc => exact absurd rfl (hi sda scl hc)
  | _ => rfl

theorem afterSteps_withPins : (s.withPins a b).afterSteps i = (s.afterSteps i).withPins a b := by
  rw [State.afterSteps, acceptInstr_withPins a b s hi, operationSteps_withPins a b _ hi, State.afterSteps]

end

/-- Settles O32: acceptance, the steps and completion commute with a change of the identifiers. -/
theorem pinIdentifiersAreOpaque : Obligations.PinIdentifiersAreOpaque := by
  intro i s a b hready hi
  obtain ⟨hsda, hscl⟩ := (acceptInstr_frame i s).pins hi
  have hsteps := operationSteps_frame i (s.acceptInstr i)
  refine ⟨_, exec_ready i s hready, ?_, hsteps.sdaPin.trans hsda, hsteps.sclPin.trans hscl⟩
  rw [← State.withPins, exec_ready i (s.withPins a b) hready, afterSteps_withPins a b s hi]
  rfl

end Sys2Proof.Machine
end

section
/-! PROOF. The pad trace of every operation, and that no step of the machine takes an event back (40_sequencer.md R91,
20_memory.md R52). -/

namespace Sys2Proof.Machine

/-! ## The pad trace of an operation -/

/-- `OperationTrace l skip i es`: `es` is a pad trace that the rules' text gives `i`, issued with the requests at `l`
and the flag at `skip`. The levels its samples return are left open. -/
inductive OperationTrace (l : Lines) (skip : Bool) : Instr → PadTrace → Prop where
  | begin (sda scl : Byte) (hc : HalfCycle) : OperationTrace l skip (.begin sda scl hc) (traceBegin sda scl)
  | start : OperationTrace l skip .start (traceStart l)
  | stop : OperationTrace l skip .stop (traceStop l)
  | wrb (data : Byte) : OperationTrace l skip (.wrb data) (traceWrb l data)
  | rdb (vs : List Level) : vs.length = 8 → OperationTrace l skip .rdb (traceRdb l skip vs)
  | wackl {i : Instr} (level : Level) : i.core = .wackl level → OperationTrace l skip i (traceWackl l level)
  | rack (v : Level) : OperationTrace l skip .rack (traceRack l v)
  | rds (v : Level) : OperationTrace l skip .rds (traceRds l v)

/-- Acceptance records no event, so the events of an operation are those of its steps. -/
theorem afterSteps_trace (i : Instr) (s : State) :
    ∃ es, OperationTrace s.lines s.stretchPending i es ∧ (s.afterSteps i).trace = s.trace ++ es := by
  cases i with
  | begin sda scl hc => exact ⟨_, .begin sda scl hc, congrArg State.trace (beginSteps_eq _)⟩
  | start => exact ⟨_, .start, congrArg State.trace (startSteps_eq _)⟩
  | stop => exact ⟨_, .stop, congrArg State.trace (stopSteps_eq _)⟩
  | wrb data => exact ⟨_, .wrb data, congrArg State.trace (wrbSteps_eq (s.acceptWrb data))⟩
  | rdb =>
    obtain ⟨vs, hlen, -, h⟩ := rdbSteps_eq s.acceptRdb
    exact ⟨_, .rdb vs hlen, congrArg State.trace h⟩
  | wackl level => exact ⟨_, .wackl level rfl, congrArg State.trace (wacklSteps_eq _)⟩
  | wack => exact ⟨_, .wackl ACK rfl, congrArg State.trace (wacklSteps_eq _)⟩
  | wnack => exact ⟨_, .wackl NACK rfl, congrArg State.trace (wacklSteps_eq _)⟩
  | rack => exact ⟨_, .rack _, congrArg State.trace (rackSteps_eq _)⟩
  | rds => exact ⟨_, .rds _, congrArg State.trace (rdsSteps_eq _)⟩

/-- Completion records no event either. -/
theorem operationTrace_newEvents (i : Instr) (s : State) (v : Byte) :
    OperationTrace s.lines s.stretchPending i (newEvents s ((s.afterSteps i).complete v)) := by
  obtain ⟨es, hes, htrace⟩ := afterSteps_trace i s
  rwa [newEvents_of_append s ((s.afterSteps i).complete v) es htrace]

/-! ## The trace only grows -/

theorem State.perform_trace_grows (s : State) (a : Action) : s.trace <+: (s.perform a).trace := by
  cases a <;> exact List.prefix_append _ _

@[simp] theorem State.advance_trace (s : State) : s.advance.trace = s.trace := by
  obtain ⟨b, l, h⟩ := s.advance_cases; rw [h]

@[simp] theorem State.countEdge_trace (clk : Nat) (s : State) : (s.countEdge clk).trace = s.trace := by
  simp only [State.countEdge]
  split_ifs <;> simp

theorem State.rowEdge_trace_grows (clk : Nat) (s : State) (r : Row) : s.trace <+: (s.rowEdge clk r).trace := by
  have hperform := s.perform_trace_grows r.action
  have hwait : s.trace <+: ((s.perform r.action).startWait clk).trace := hperform.trans (List.prefix_append _ _)
  simp only [State.rowEdge]
  split_ifs
  · rwa [State.advance_trace]
  · exact hwait
  · rwa [State.advance_trace]

/-- One clock edge inside an operation: a cycle of a wait and the completion record nothing, a row its events. -/
theorem State.busyEdge_trace_grows (clk : Nat) (s : State) : s.trace <+: (s.busyEdge clk).trace := by
  obtain ⟨-, e⟩ | ⟨r, -, -, e⟩ | ⟨-, -, e⟩ := s.busyEdge_cases clk <;> rw [e]
  · rw [State.countEdge_trace]
    exact List.prefix_rfl
  · exact s.idle.rowEdge_trace_grows clk r
  · exact List.prefix_rfl

/-- Settles O33: a step is a clock edge, an idle cycle or a whole operation, and each only appends events. -/
theorem traceOnlyGrows : Obligations.TraceOnlyGrows := by
  intro s t hstep
  obtain ⟨-, e⟩ | ⟨-, -, e⟩ | ⟨w, rest, i, hready, -, -, -, e⟩ | ⟨w, rest, i, r, -, -, -, -, e⟩ |
    ⟨w, rest, r, -, -, -, e⟩ := step_cases s <;> rw [e] at hstep
  · cases hstep
    exact s.busyEdge_trace_grows _
  · cases hstep
    exact List.prefix_rfl
  · rw [exec_ready i { s with cmds := rest } hready] at hstep
    cases hstep
    obtain ⟨es, -, htrace⟩ := afterSteps_trace i { s with cmds := rest }
    exact ⟨es, htrace.symm⟩
  · cases hstep
  · cases hstep

end Sys2Proof.Machine
end

section
/-! PROOF. The bus as the block sees and drives it: pads, samples, one line per drive step and the order of bits
(20_memory.md R40, R42, R44, R45, R47, R48, 60_exceptions.md R172). -/

namespace Sys2Proof.Machine

/-! ## Pads and samples -/

/-- A pad whose control is the negated request makes the line the AND of the request and the rest of the bus. -/
theorem wireLevel_padOf_not (request env : Level) : wireLevel (padOf (!request)) env = (request && env) := by
  cases request <;> rfl

theorem padOf_not_eq_pullLow_iff (request : Level) : padOf (!request) = .pullLow ↔ request = LOW := by
  cases request <;> decide

/-- Settles O40: the pad controls are the negated requests. -/
theorem padsPullLowOrRelease : Obligations.PadsPullLowOrRelease :=
  fun s env => ⟨wireLevel_padOf_not s.lastSda env, wireLevel_padOf_not s.lastScl env,
    padOf_not_eq_pullLow_iff s.lastSda, padOf_not_eq_pullLow_iff s.lastScl⟩

/-- Settles O39: each sample step records the level of its wire, which is LOW on a line the block pulls. -/
theorem sampleIsRequestAndEnvironment : Obligations.SampleIsRequestAndEnvironment :=
  fun s => ⟨s.sampleSda_smp, s.sampleScl_smp, s.shiftSda_trace, s.sampleSda_trace, s.sampleScl_trace,
    s.sdaLevel_pulled, s.sclLevel_pulled, rfl, rfl, rfl,
    fun a rest h => ⟨s.envAnswer_cons .sda a rest h, s.envAnswer_cons .scl a rest h⟩⟩

/-! ## Who samples -/

section
variable {l : Lines} {skip : Bool} {i : Instr} {es : PadTrace} (h : OperationTrace l skip i es)
include h

theorem OperationTrace.sampleScl_not_mem (hi : i ≠ .rds) (v : Level) : Event.sampleScl v ∉ es := by
  cases h with
  | begin sda scl hc => simp [traceBegin]
  | start => simp [traceStart]
  | stop => simp [traceStop]
  | wrb data => simp [traceWrb, traceWrittenBit]
  | rdb vs hlen => cases skip <;> simp [traceRdb, traceReadBit]
  | wackl level hcore => simp [traceWackl]
  | rack v => simp [traceRack]
  | rds v => exact absurd rfl hi

theorem OperationTrace.sampleSda_not_mem (hrdb : i ≠ .rdb) (hrack : i ≠ .rack) (v : Level) :
    Event.sampleSda v ∉ es := by
  cases h with
  | begin sda scl hc => simp [traceBegin]
  | start => simp [traceStart]
  | stop => simp [traceStop]
  | wrb data => simp [traceWrb, traceWrittenBit]
  | rdb vs hlen => exact absurd rfl hrdb
  | wackl level hcore => simp [traceWackl]
  | rack v => exact absurd rfl hrack
  | rds v => simp [traceRds]

end

/-- RDB, RACK and RDS alone ask the environment. -/
theorem Instr.samples_eq_zero {i : Instr} (hrdb : i ≠ .rdb) (hrack : i ≠ .rack) (hrds : i ≠ .rds) :
    i.samples = 0 := by
  cases i with
  | rdb => exact absurd rfl hrdb
  | rack => exact absurd rfl hrack
  | rds => exact absurd rfl hrds
  | _ => rfl

/-- Settles O59: no other operation has a sample of the line in its pad trace, and the answers used up are as many as
the samples. -/
theorem onlyTheProbeReadsScl : Obligations.OnlyTheProbeReadsScl := by
  intro i s hready
  have htrace := operationTrace_newEvents i s (s.afterSteps i).result
  refine ⟨_, exec_ready i s hready, ?_, ?_, ?_⟩
  · rintro hi e he v rfl
    exact htrace.sampleScl_not_mem hi v he
  · rintro hrdb hrack e he v rfl
    exact htrace.sampleSda_not_mem hrdb hrack v he
  · intro hrdb hrack hrds
    have hscript := (operationSteps_frame i (s.acceptInstr i)).envScript
    rwa [Instr.samples_eq_zero hrdb hrack hrds, List.drop_zero, (acceptInstr_frame i s).envScript] at hscript

/-! ## One line per drive step -/

/-- Every group of a written bit starts and ends with SCL LOW, so a new data bit changes SDA alone. -/
theorem oneLinePerStep_writtenBits (bits : List Level) (sda : Level) :
    oneLinePerStep (sda, LOW) (bits.flatMap traceWrittenBit) = true := by
  induction bits generalizing sda with
  | nil => rfl
  | cons b bits ih => simp [traceWrittenBit, oneLinePerStep, ih]

/-- A group of a read bit starts by releasing both lines, of which one is released already. -/
theorem oneLinePerStep_readBits (vs : List Level) (cur : Lines) (h : cur.1 = HIGH ∨ cur.2 = HIGH) :
    oneLinePerStep cur (vs.flatMap traceReadBit) = true := by
  induction vs generalizing cur with
  | nil => rfl
  | cons v vs ih =>
    simpa [traceReadBit, oneLinePerStep, ih (HIGH, LOW) (.inl rfl)] using h

theorem oneLinePerStep_traceWrb (l : Lines) (d : Byte) : oneLinePerStep l (traceWrb l d) = true := by
  simp [traceWrb, oneLinePerStep_append, oneLinePerStep, oneLinePerStep_writtenBits]

/-- RDB changes one line at a time if SCL is released where it skips its leading steps (43_byte_transfer.md R128). -/
theorem oneLinePerStep_traceRdb (l : Lines) (skip : Bool) (vs : List Level) (h : skip = true → l.2 = HIGH) :
    oneLinePerStep l (traceRdb l skip vs) = true := by
  cases skip with
  | true => exact oneLinePerStep_readBits vs l (.inr (h rfl))
  | false => simp [traceRdb, oneLinePerStep, oneLinePerStep_readBits]

theorem OperationTrace.changes_one_line {l : Lines} {skip : Bool} {i : Instr} {es : PadTrace}
    (h : OperationTrace l skip i es) (hi : ∀ sda scl hc, i ≠ .begin sda scl hc)
    (hskip : skip = true → l.2 = HIGH) :
    oneLinePerStep l es = true := by
  cases h with
  | begin sda scl hc => exact absurd rfl (hi sda scl hc)
  | start => simp [traceStart, oneLinePerStep]
  | stop => simp [traceStop, oneLinePerStep]
  | wrb data => exact oneLinePerStep_traceWrb l data
  | rdb vs hlen => exact oneLinePerStep_traceRdb l skip vs hskip
  | wackl level hcore => simp [traceWackl, oneLinePerStep]
  | rack v => simp [traceRack, oneLinePerStep]
  | rds v => simp [traceRds, oneLinePerStep]

/-- BEGIN's one drive step releases both lines: it changes both exactly when both were LOW. -/
theorem oneLinePerStep_traceBegin (l : Lines) (sda scl : Byte) :
    oneLinePerStep l (traceBegin sda scl) = false ↔ l = (LOW, LOW) := by
  obtain ⟨a, c⟩ := l
  cases a <;> cases c <;> simp [traceBegin, oneLinePerStep]

/-- Settles O41: from a quiet state an RDB that skips its leading steps finds SCL released. -/
theorem oneLinePerDriveStep : Obligations.OneLinePerDriveStep := by
  rintro i s ⟨hready, -, hflag⟩
  refine ⟨_, exec_ready i s hready, fun hi => ?_, ?_⟩
  · exact (operationTrace_newEvents i s _).changes_one_line hi fun hskip => (hflag hskip).2
  · rintro sda scl hc rfl
    have hevents (v : Byte) : newEvents s ((s.afterSteps (.begin sda scl hc)).complete v) = traceBegin sda scl :=
      newEvents_begin s sda scl hc
    rw [hevents, oneLinePerStep_traceBegin]

/-! ## The order of bits -/

/-- Each group of a written bit has one clock pulse, which carries the bit. -/
theorem clockRises_writtenBits (bits : List Level) (sda : Level) :
    clockRises (sda, LOW) (bits.flatMap traceWrittenBit) = bits := by
  induction bits generalizing sda with
  | nil => rfl
  | cons b bits ih => simp [traceWrittenBit, clockRises, ih]

/-- The clock pulses of WRB carry the bits of its byte (43_byte_transfer.md R120). -/
theorem clockRises_traceWrb (l : Lines) (d : Byte) : clockRises l (traceWrb l d) = dataBits d := by
  simp [traceWrb, clockRises_append, clockRises, clockRises_writtenBits]

theorem dataBits_getElem? (d : Byte) {k : Nat} (hk : k < 8) : (dataBits d)[k]? = some (d.getLsbD (7 - k)) := by
  interval_cases k <;> rfl

theorem sampledLevels_readBits (vs : List Level) : sampledLevels (vs.flatMap traceReadBit) = vs := by
  induction vs with
  | nil => rfl
  | cons v vs ih => simp [traceReadBit, sampledLevels, ih]

theorem sampledLevels_traceRdb (l : Lines) (skip : Bool) (vs : List Level) :
    sampledLevels (traceRdb l skip vs) = vs := by
  cases skip <;> simp [traceRdb, sampledLevels, sampledLevels_readBits]

theorem shiftIn_getLsbD_zero (r : Byte) (v : Level) : (shiftIn r v).getLsbD 0 = v :=
  (BitVec.getLsbD_append (x := r.extractLsb' 0 7) (y := BitVec.ofBool v)).trans (by simp)

theorem shiftIn_getLsbD_succ (r : Byte) (v : Level) {j : Nat} (hj : j < 7) :
    (shiftIn r v).getLsbD (j + 1) = r.getLsbD j :=
  (BitVec.getLsbD_append (x := r.extractLsb' 0 7) (y := BitVec.ofBool v)).trans (by simp [hj])

/-- Of at most eight levels shifted in, each stands at the bit whose index is the number of levels shifted in after
it. -/
theorem foldl_shiftIn_getLsbD (vs : List Level) (r : Byte) {k : Nat} (hk : k < vs.length) (hlen : vs.length ≤ 8) :
    vs[k]? = some ((vs.foldl shiftIn r).getLsbD (vs.length - 1 - k)) := by
  induction vs using List.reverseRecOn with
  | nil => simp at hk
  | append_singleton vs v ih =>
    rw [List.length_append, List.length_singleton] at hk hlen
    rw [List.foldl_append, List.foldl_cons, List.foldl_nil, List.length_append, List.length_singleton,
      Nat.add_sub_cancel]
    by_cases hlast : k = vs.length
    · rw [hlast, Nat.sub_self, shiftIn_getLsbD_zero, List.getElem?_concat_length]
    · have hk' : k < vs.length := by omega
      have hpos : vs.length - k = vs.length - 1 - k + 1 := by omega
      rw [hpos, shiftIn_getLsbD_succ _ _ (by omega), List.getElem?_append_left hk']
      exact ih hk' (by omega)

/-- From a ready state WRB completes with the pad trace of R120. -/
theorem exec_wrb_newEvents (s : State) (d : Byte) (hready : s.busy = false) :
    ∃ t, exec (.wrb d) s = .next t ∧ newEvents s t = traceWrb s.lines d := by
  refine ⟨_, exec_ready (.wrb d) s hready, newEvents_of_append _ _ _ ?_⟩
  exact congrArg State.trace (wrbSteps_eq (s.acceptWrb d))

/-- From a ready state RDB completes with eight sampled levels, and returns them as it accumulated them. -/
theorem exec_rdb_newEvents (s : State) (hready : s.busy = false) :
    ∃ t vs, exec .rdb s = .next t ∧ vs.length = 8 ∧ newEvents s t = traceRdb s.lines s.stretchPending vs ∧
      t.res = vs.foldl shiftIn 0x00#8 := by
  obtain ⟨vs, hlen, -, h⟩ := rdbSteps_eq s.acceptRdb
  refine ⟨_, vs, exec_ready .rdb s hready, hlen, newEvents_of_append _ _ _ (congrArg State.trace h), ?_⟩
  have hresult : (s.afterSteps .rdb).result = (rdbSteps s.acceptRdb).shreg := by
    rw [State.result, State.afterSteps_op]
    rfl
  rw [State.complete_res, hresult, h]
  rfl

/-- Settles O46: WRB's pulses carry `dataBits`, and RDB's result is its samples shifted in. -/
theorem bitsTravelMostSignificantFirst : Obligations.BitsTravelMostSignificantFirst := by
  constructor
  · intro s d hready
    obtain ⟨t, hexec, hevents⟩ := exec_wrb_newEvents s d hready
    refine ⟨t, hexec, ?_⟩
    rw [hevents, clockRises_traceWrb]
    refine ⟨rfl, fun k hk hk' => ?_⟩
    rw [dataBits_getElem? d (by omega), show 7 - (k - 1) = 8 - k by omega]
  · intro s hready
    obtain ⟨t, vs, hexec, hlen, hevents, hres⟩ := exec_rdb_newEvents s hready
    refine ⟨t, hexec, ?_⟩
    rw [hevents, sampledLevels_traceRdb, hres]
    refine ⟨hlen, fun k hk hk' => ?_⟩
    rw [foldl_shiftIn_getLsbD vs 0x00#8 (k := k - 1) (by omega) (by omega), hlen,
      show 8 - 1 - (k - 1) = 8 - k by omega]

end Sys2Proof.Machine
end

section
/-! PROOF. The command encoding: the encoder and the decoder undo each other (30_encoding.md R62 to R67, R71). -/

namespace Sys2Proof

/-! ## The low fields of an encoded word (R62 to R64) -/

@[simp] theorem lowBitsN_encodeN (op : BitVec 4) : lowBitsN (encodeN op) = 0#28 :=
  BitVec.extractLsb'_append_eq_right

@[simp] theorem fieldData_encodeD (op : BitVec 4) (data : Byte) : fieldData (encodeD op data) = data :=
  BitVec.extractLsb'_append_eq_right

@[simp] theorem lowBitsD_encodeD (op : BitVec 4) (data : Byte) : lowBitsD (encodeD op data) = 0#20 :=
  (BitVec.extractLsb'_append_eq_of_le (by decide)).trans BitVec.extractLsb'_append_eq_right

@[simp] theorem fieldLevel_encodeL (op : BitVec 4) (level : Level) : fieldLevel (encodeL op level) = level := by
  simp only [fieldLevel, encodeL, BitVec.getLsbD_append]
  cases level <;> rfl

@[simp] theorem lowBitsL_encodeL (op : BitVec 4) (level : Level) : lowBitsL (encodeL op level) = 0#27 :=
  (BitVec.extractLsb'_append_eq_of_le (by decide)).trans BitVec.extractLsb'_append_eq_right

/-! ## What the decoder reads -/

/-- The commands of format N, which have no operand (R62). -/
def formatN : List Instr := [.start, .stop, .rdb, .rack, .rds]

theorem encode_formatN : ∀ i ∈ formatN, encode i = encodeN i.opcode := by decide

theorem core_formatN : ∀ i ∈ formatN, i.core = i := by decide

/-- `Reading w r`: by its opcode and by the bits its format wants zero, the word `w` is read as `r` (R67, R68). -/
inductive Reading (w : CmdWord) : Except DecodeError Instr → Prop where
  | begin : fieldOpcode w = opBEGIN → Reading w (.ok (.begin (fieldSda w) (fieldScl w) (fieldHc w)))
  | formatN {i : Instr} : i ∈ formatN → fieldOpcode w = i.opcode → lowBitsN w = 0#28 → Reading w (.ok i)
  | wrb : fieldOpcode w = opWRB → lowBitsD w = 0#20 → Reading w (.ok (.wrb (fieldData w)))
  | wackl : fieldOpcode w = opWACKL → lowBitsL w = 0#27 → Reading w (.ok (.wackl (fieldLevel w)))
  | reservedN {i : Instr} : i ∈ formatN → fieldOpcode w = i.opcode → lowBitsN w ≠ 0#28 →
      Reading w (.error .reservedBits)
  | reservedD : fieldOpcode w = opWRB → lowBitsD w ≠ 0#20 → Reading w (.error .reservedBits)
  | reservedL : fieldOpcode w = opWACKL → lowBitsL w ≠ 0#27 → Reading w (.error .reservedBits)
  | reservedOpcode : fieldOpcode w = 0x0#4 ∨ 0x9#4 ≤ fieldOpcode w → Reading w (.error .reservedOpcode)

theorem reading_decodeN {w : CmdWord} {i : Instr} (hi : i ∈ formatN) (hop : fieldOpcode w = i.opcode) :
    Reading w (decodeN w i) := by
  rw [decodeN]
  split
  next hlow => exact .formatN hi hop hlow
  next hlow => exact .reservedN hi hop hlow

/-- The eight opcodes of R60 are 0x1 to 0x8. -/
theorem reservedOpcode_of_unassigned : ∀ op : BitVec 4, op ≠ opBEGIN → op ≠ opSTART → op ≠ opSTOP → op ≠ opWRB →
    op ≠ opRDB → op ≠ opWACKL → op ≠ opRACK → op ≠ opRDS → op = 0x0#4 ∨ 0x9#4 ≤ op := by
  decide

/-- Everything the decoder can answer. -/
theorem reading_decode (w : CmdWord) : Reading w (decode w) := by
  simp only [decode]
  split_ifs with hbegin hstart hstop hwrb hlowD hrdb hwackl hlowL hrack hrds
  · exact .begin hbegin
  · exact reading_decodeN (by decide) hstart
  · exact reading_decodeN (by decide) hstop
  · exact .wrb hwrb hlowD
  · exact .reservedD hwrb hlowD
  · exact reading_decodeN (by decide) hrdb
  · exact .wackl hwackl hlowL
  · exact .reservedL hwackl hlowL
  · exact reading_decodeN (by decide) hrack
  · exact reading_decodeN (by decide) hrds
  · exact .reservedOpcode (reservedOpcode_of_unassigned _ hbegin hstart hstop hwrb hrdb hwackl hrack hrds)

/-! ## The two round trips -/

theorem decode_encode_formatN : ∀ i ∈ formatN, decode (encode i) = .ok i.core := by decide

theorem decode_encodeC (sda scl : Byte) (hc : HalfCycle) :
    decode (encodeC opBEGIN sda scl hc) = .ok (.begin sda scl hc) := by
  simp [decode]

theorem decode_encodeD (data : Byte) : decode (encodeD opWRB data) = .ok (.wrb data) := by
  simp [decode, opBEGIN, opSTART, opSTOP, opWRB]

theorem decode_encodeL (level : Level) : decode (encodeL opWACKL level) = .ok (.wackl level) := by
  simp [decode, opBEGIN, opSTART, opSTOP, opWRB, opRDB, opWACKL]

/-- Settles O5: format by format. -/
theorem decodeInvertsEncode : Obligations.DecodeInvertsEncode := by
  intro i
  cases i with
  | begin sda scl hc => exact decode_encodeC sda scl hc
  | wrb data => exact decode_encodeD data
  | wackl level => exact decode_encodeL level
  | wack => exact decode_encodeL ACK
  | wnack => exact decode_encodeL NACK
  | start | stop | rdb | rack | rds => exact decode_encode_formatN _ (by decide)

/-- Settles O6: the word is its fields, those the format wants zero among them. -/
theorem encodeInvertsDecode : Obligations.EncodeInvertsDecode := by
  intro w i hdec
  have hread : Reading w (.ok i) := hdec ▸ reading_decode w
  cases hread with
  | begin hop => exact ⟨by rw [encode, ← hop, encodeC_fields w], rfl⟩
  | wrb hop hlow => exact ⟨by rw [encode, ← hop, encodeD_fields w hlow], rfl⟩
  | wackl hop hlow => exact ⟨by rw [encode, ← hop, encodeL_fields w hlow], rfl⟩
  | formatN hi hop hlow => exact ⟨by rw [encode_formatN i hi, ← hop, encodeN_fields w hlow], core_formatN i hi⟩

end Sys2Proof
end

section
/-! PROOF. The rows of the opcode map and the reserved words (30_encoding.md R67, R68). -/

namespace Sys2Proof

variable {w : CmdWord}

/-! ## The rows of the map -/

/-- A word that matches two rows makes their patterns agree wherever both masks look. -/
theorem OpcodeRow.overlaps_of_matches {r r' : OpcodeRow} (h : r.matches w = true) (h' : r'.matches w = true) :
    r.overlaps r' = true := by
  simp only [OpcodeRow.matches, OpcodeRow.overlaps, beq_iff_eq] at *
  rw [← h, ← h']
  ac_rfl

/-- A mask that looks at all but the low `k` bits clears those. -/
theorem and_highMask_eq_iff (k : Nat) (p : CmdWord) :
    w &&& (BitVec.allOnes 32 <<< k) = p ↔ w.toNat / 2 ^ k * 2 ^ k = p.toNat := by
  rw [← BitVec.shiftLeft_ushiftRight, ← BitVec.toNat_inj, BitVec.toNat_shiftLeft, BitVec.toNat_ushiftRight,
    Nat.shiftRight_eq_div_pow, Nat.shiftLeft_eq, Nat.mod_eq_of_lt]
  exact (Nat.div_mul_le_self _ _).trans_lt w.isLt

/-- A format N row looks at every bit. -/
theorem OpcodeRow.matches_formatN (m : String) (p : CmdWord) :
    OpcodeRow.matches ⟨m, p, 0xFFFFFFFF#32⟩ w = true ↔ w = p := by
  rw [OpcodeRow.matches, beq_iff_eq]
  exact Eq.congr_left BitVec.and_allOnes

theorem OpcodeRow.matches_wackl (m : String) :
    OpcodeRow.matches ⟨m, 0x60000000#32, 0xFFFFFFFE#32⟩ w = true ↔ w = 0x60000000#32 ∨ w = 0x60000001#32 := by
  rw [OpcodeRow.matches, beq_iff_eq]
  refine (and_highMask_eq_iff 1 0x60000000#32).trans ?_
  simp only [← BitVec.toNat_inj, BitVec.toNat_ofNat]
  omega

/-! ## Legal and reserved words -/

/-- The opcode is a command's, and the bits that its format wants zero are zero (R62 to R65). -/
def LegalWord (w : CmdWord) : Prop :=
  fieldOpcode w = opBEGIN ∨ (∃ i ∈ formatN, fieldOpcode w = i.opcode ∧ lowBitsN w = 0#28) ∨
  (fieldOpcode w = opWRB ∧ lowBitsD w = 0#20) ∨ (fieldOpcode w = opWACKL ∧ lowBitsL w = 0#27)

/-- Kinds (a) to (d) of R68. -/
def ReservedWord (w : CmdWord) : Prop :=
  (fieldOpcode w = 0x0#4 ∨ 0x9#4 ≤ fieldOpcode w) ∨
  ((fieldOpcode w = 0x2#4 ∨ fieldOpcode w = 0x3#4 ∨ fieldOpcode w = 0x5#4 ∨ fieldOpcode w = 0x7#4 ∨
      fieldOpcode w = 0x8#4) ∧ lowBitsN w ≠ 0#28) ∨
  (fieldOpcode w = 0x4#4 ∧ lowBitsD w ≠ 0#20) ∨
  (fieldOpcode w = 0x6#4 ∧ lowBitsL w ≠ 0#27)

theorem opcode_formatN : ∀ i ∈ formatN,
    i.opcode = 0x2#4 ∨ i.opcode = 0x3#4 ∨ i.opcode = 0x5#4 ∨ i.opcode = 0x7#4 ∨ i.opcode = 0x8#4 := by
  decide

theorem legalWord_of_decode {i : Instr} (hdec : decode w = .ok i) : LegalWord w := by
  have hread : Reading w (.ok i) := hdec ▸ reading_decode w
  cases hread with
  | begin hop => exact .inl hop
  | formatN hi hop hlow => exact .inr (.inl ⟨i, hi, hop, hlow⟩)
  | wrb hop hlow => exact .inr (.inr (.inl ⟨hop, hlow⟩))
  | wackl hop hlow => exact .inr (.inr (.inr ⟨hop, hlow⟩))

theorem reservedWord_of_decode {e : DecodeError} (hdec : decode w = .error e) : ReservedWord w := by
  have hread : Reading w (.error e) := hdec ▸ reading_decode w
  cases hread with
  | reservedOpcode hop => exact .inl hop
  | reservedN hi hop hlow => exact .inr (.inl ⟨hop ▸ opcode_formatN _ hi, hlow⟩)
  | reservedD hop hlow => exact .inr (.inr (.inl ⟨hop, hlow⟩))
  | reservedL hop hlow => exact .inr (.inr (.inr ⟨hop, hlow⟩))

theorem LegalWord.not_reservedWord (h : LegalWord w) : ¬ ReservedWord w := by
  obtain hop | ⟨i, hi, hop, hlow⟩ | ⟨hop, hlow⟩ | ⟨hop, hlow⟩ := h
  · simp [ReservedWord, hop, opBEGIN]
  · obtain h | h | h | h | h := opcode_formatN i hi <;> simp [ReservedWord, hop, hlow, h]
  · simp [ReservedWord, hop, hlow, opWRB]
  · simp [ReservedWord, hop, hlow, opWACKL]

/-- The decoder refuses exactly kinds (a) to (d). -/
theorem decode_error_iff_reservedWord : (∃ e, decode w = .error e) ↔ ReservedWord w := by
  refine ⟨fun ⟨e, hdec⟩ => reservedWord_of_decode hdec, fun hres => ?_⟩
  cases hdec : decode w with
  | error e => exact ⟨e, rfl⟩
  | ok i => exact absurd hres (legalWord_of_decode hdec).not_reservedWord

/-- The decoder refuses exactly what is not legal. -/
theorem decode_error_iff_not_legalWord : (∃ e, decode w = .error e) ↔ ¬ LegalWord w := by
  refine ⟨fun h hleg => hleg.not_reservedWord (decode_error_iff_reservedWord.mp h), fun hleg => ?_⟩
  cases hdec : decode w with
  | error e => exact ⟨e, rfl⟩
  | ok i => exact absurd (legalWord_of_decode hdec) hleg

/-! ## Legal words are those of the map -/

theorem OpcodeRow.matches_begin (m : String) :
    OpcodeRow.matches ⟨m, 0x10000000#32, 0xF0000000#32⟩ w = true ↔ fieldOpcode w = opBEGIN := by
  rw [OpcodeRow.matches, beq_iff_eq]
  refine (and_highMask_eq_iff 28 0x10000000#32).trans ?_
  simp only [← BitVec.toNat_inj, fieldOpcode, opBEGIN, BitVec.extractLsb'_toNat, Nat.shiftRight_eq_div_pow,
    BitVec.toNat_ofNat]
  have := w.isLt
  omega

theorem OpcodeRow.matches_wrb (m : String) :
    OpcodeRow.matches ⟨m, 0x40000000#32, 0xFFFFFF00#32⟩ w = true ↔ fieldOpcode w = opWRB ∧ lowBitsD w = 0#20 := by
  rw [OpcodeRow.matches, beq_iff_eq]
  refine (and_highMask_eq_iff 8 0x40000000#32).trans ?_
  simp only [← BitVec.toNat_inj, fieldOpcode, lowBitsD, opWRB, BitVec.extractLsb'_toNat, Nat.shiftRight_eq_div_pow,
    BitVec.toNat_ofNat]
  have := w.isLt
  omega

theorem eq_encodeN_iff (op : BitVec 4) : w = encodeN op ↔ fieldOpcode w = op ∧ lowBitsN w = 0#28 := by
  constructor
  · rintro rfl
    simp
  · rintro ⟨rfl, hlow⟩
    exact (encodeN_fields w hlow).symm

theorem ackWord_iff : w = 0x60000000#32 ∨ w = 0x60000001#32 ↔ fieldOpcode w = opWACKL ∧ lowBitsL w = 0#27 := by
  constructor
  · rintro (rfl | rfl) <;> decide
  · rintro ⟨hop, hlow⟩
    rw [← encodeL_fields w hlow, hop]
    cases fieldLevel w <;> decide

theorem exists_row_matches_iff_legalWord : (∃ r ∈ opcodeMap, r.matches w = true) ↔ LegalWord w := by
  have hN : (∃ i ∈ formatN, fieldOpcode w = i.opcode ∧ lowBitsN w = 0#28) ↔
      w = 0x20000000#32 ∨ w = 0x30000000#32 ∨ w = 0x50000000#32 ∨ w = 0x70000000#32 ∨ w = 0x80000000#32 := by
    simp only [← eq_encodeN_iff, formatN, List.mem_cons, List.not_mem_nil, exists_eq_or_imp, or_false, exists_eq_left]
    rfl
  rw [LegalWord, hN]
  simp only [opcodeMap, List.mem_cons, List.not_mem_nil, exists_eq_or_imp, or_false, exists_eq_left,
    OpcodeRow.matches_begin, OpcodeRow.matches_wrb, OpcodeRow.matches_wackl, OpcodeRow.matches_formatN, ← ackWord_iff]
  exact iff_of_eq (by ac_rfl)

/-! ## The obligations -/

/-- Settles O7: legal words are those of the map, and kind (e) is a reading of BEGIN. -/
theorem reservedWordsMatchNoRow : Obligations.ReservedWordsMatchNoRow := by
  refine fun w => ⟨?_, decode_error_iff_reservedWord, fun i hdec => ?_⟩
  · rw [decode_error_iff_not_legalWord, ← exists_row_matches_iff_legalWord]
    simp
  · have hread : Reading w (.ok i) := hdec ▸ reading_decode w
    cases hread with
    | begin hop => simp [Instr.wellFormed, fieldHc, hop, opBEGIN]
    | formatN hi hop hlow =>
      have hwf : ∀ j ∈ formatN, j.wellFormed = true ∧ j.opcode ≠ 0x1#4 := by decide
      simp [hwf i hi, hop]
    | wrb hop hlow => simp [Instr.wellFormed, hop, opWRB]
    | wackl hop hlow => simp [Instr.wellFormed, hop, opWACKL]

/-- Settles O8: two rows with a common word overlap, and the overlaps of the ten rows are counted. -/
theorem opcodeRowsAreDisjoint : Obligations.OpcodeRowsAreDisjoint := by
  refine ⟨rfl, ?_, fun w => ?_⟩
  · have hoverlaps : opcodeMap.Pairwise fun r r' => r.overlaps r' = true →
        r.mnemonic = "WACKL" ∧ (r'.mnemonic = "WACK" ∨ r'.mnemonic = "WNACK") := by decide
    exact hoverlaps.imp fun h w hr hr' => h (OpcodeRow.overlaps_of_matches hr hr')
  · simp [opcodeMap, OpcodeRow.matches_wackl, OpcodeRow.matches_formatN]

end Sys2Proof
end

section
/-! PROOF. The assembler's side of the encoding: example words, pseudo-instructions and operands that do not fit
(30_encoding.md R66, R71, R72). -/

namespace Sys2Proof.Machine

/-- Settles O9: the written-out words are evaluated. -/
theorem exampleWordsOfTheSpec : Obligations.ExampleWordsOfTheSpec := by
  unfold Obligations.ExampleWordsOfTheSpec
  decide

@[simp] theorem fitField_toNat {w : Nat} (b : BitVec w) : fitField w b.toNat = some b := by
  simp [fitField, b.isLt]

theorem fitField_eq_none {w n : Nat} (h : 2 ^ w ≤ n) : fitField w n = none :=
  if_neg (Nat.not_lt.mpr h)

/-- BEGIN is encoded when its three operands fit their fields. -/
theorem word_begin (sda scl hc : Nat) : (AsmCmd.begin sda scl (some hc)).word =
    (fitField 8 sda).bind fun a => (fitField 8 scl).bind fun c => (fitField 12 hc).bind fun h =>
      some (encode (.begin a c h)) := by
  simp [AsmCmd.word, AsmCmd.assemble, Option.map_bind]

theorem word_begin_of_misfit {sda scl hc : Nat} (h : 255 < sda ∨ 255 < scl ∨ 4095 < hc) :
    (AsmCmd.begin sda scl (some hc)).word = none := by
  rw [word_begin]
  obtain hsda | hscl | hhc := h
  · simp [fitField_eq_none (w := 8) hsda]
  · simp [fitField_eq_none (w := 8) hscl]
  · simp [fitField_eq_none (w := 12) hhc]

theorem word_wrb (data : Nat) : (AsmCmd.wrb data).word = (fitField 8 data).map fun b => encode (.wrb b) :=
  Option.map_map ..

theorem word_wackl (level : Nat) :
    (AsmCmd.wackl level).word = (fitField 1 level).map fun l => encode (.wackl (l.getLsbD 0)) :=
  Option.map_map ..

/-- Settles O10: an operand's field holds exactly the values it can. -/
theorem pseudoInstructionsExpand : Obligations.PseudoInstructionsExpand := by
  refine ⟨fun _ _ => rfl, rfl, rfl, fun sda scl hc => ?_, fun data => ?_, fun level => ?_, rfl, rfl, rfl, rfl, rfl,
    fun _ _ _ => word_begin_of_misfit, fun data hdata => ?_, fun level hlevel => ?_⟩
  · simp [word_begin]
  · simp [word_wrb]
  · cases level <;> rfl
  · rw [word_wrb, fitField_eq_none (w := 8) hdata, Option.map_none]
  · rw [word_wackl, fitField_eq_none (w := 1) hlevel, Option.map_none]

end Sys2Proof.Machine
end

section
/-! PROOF. What `exec` and `step` answer: which words and commands stop the model (30_encoding.md R69,
60_exceptions.md R160, R164, 70_reset_and_hazards.md R185). -/

namespace Sys2Proof.Machine

/-- While an operation is in progress a command has no effect: every arm is guarded by `whenReady` (40_sequencer.md
R82). -/
theorem exec_busy (i : Instr) (s : State) (hbusy : s.busy = true) : exec i s = .next s := by
  cases i <;> exact if_pos hbusy

theorem exec_completes (i : Instr) (s : State) (hready : s.busy = false) :
    ∃ t, exec i s = .next t ∧ t.busy = false ∧ t.rspValid = true :=
  ⟨_, exec_ready i s hready, rfl, rfl⟩

theorem exec_next (i : Instr) (s : State) : ∃ t, exec i s = .next t := by
  cases hbusy : s.busy with
  | true => exact ⟨s, exec_busy i s hbusy⟩
  | false => exact ⟨_, exec_ready i s hbusy⟩

/-- Kind (e) is the only illegal operand value (30_encoding.md R68). -/
theorem eq_begin_of_not_wellFormed {i : Instr} (h : i.wellFormed = false) : ∃ sda scl, i = .begin sda scl 0#12 := by
  cases i with
  | begin sda scl hc =>
    obtain rfl : hc = 0#12 := by simpa [Instr.wellFormed] using h
    exact ⟨sda, scl, rfl⟩
  | _ => cases h

/-- What the model refuses of the commands that decode. -/
theorem State.refuses_cases {s : State} {i : Instr} {r : Refusal} (h : s.refuses i = some r) :
    (∃ sda scl, i = .begin sda scl 0#12 ∧ r = .illegalOperand i) ∨
    ((∀ sda scl hc, i ≠ .begin sda scl hc) ∧ s.configured = false ∧ r = .beforeBegin i) := by
  rw [State.refuses] at h
  split_ifs at h with hwf hfirst
  · obtain ⟨hconf, hother⟩ : s.configured = false ∧ mayComeFirst i = false := by simpa using hfirst
    refine .inr ⟨?_, hconf, (Option.some.inj h).symm⟩
    rintro sda scl hc rfl
    cases hother
  · obtain ⟨sda, scl, rfl⟩ := eq_begin_of_not_wellFormed (Bool.not_eq_true _ ▸ hwf)
    exact .inl ⟨sda, scl, rfl, (Option.some.inj h).symm⟩

/-- Settles O13: of what a step can do, only a reserved word and a refused command do not go on. -/
theorem noInstructionStops : Obligations.NoInstructionStops := by
  refine ⟨exec_next, exec_completes, fun s => ?_⟩
  obtain ⟨-, e⟩ | ⟨-, -, e⟩ | ⟨w, rest, i, -, -, -, -, e⟩ | ⟨w, rest, i, r, hready, hcmds, hdec, href, e⟩ |
    ⟨w, rest, r, hready, hcmds, hdec, e⟩ := step_cases s
  · exact .inl (by rw [e]; rfl)
  · exact .inl (by rw [e]; rfl)
  · obtain ⟨t, ht⟩ := exec_next i { s with cmds := rest }
    exact .inl (by rw [e, ht]; rfl)
  · refine .inr ⟨w, rest, hready, hcmds, .inr ?_⟩
    obtain ⟨sda, scl, rfl, rfl⟩ | ⟨hi, hconf, rfl⟩ := State.refuses_cases href
    · exact .inl ⟨sda, scl, hdec, e⟩
    · exact .inr ⟨i, hdec, hi, hconf, e⟩
  · exact .inr ⟨w, rest, hready, hcmds, .inl ⟨r, hdec, e⟩⟩

/-! ## The words of R69 -/

theorem step_reserved {s : State} {w : CmdWord} {rest : List CmdWord} {e : DecodeError} (hready : s.busy = false)
    (hcmds : s.cmds = w :: rest) (hdec : decode w = .error e) : step s = .refused (.reservedWord w e) := by
  simp [step, hready, hcmds, hdec]

theorem step_refuses {s : State} {w : CmdWord} {rest : List CmdWord} {i : Instr} {r : Refusal} (hready : s.busy = false)
    (hcmds : s.cmds = w :: rest) (hdec : decode w = .ok i) (href : s.refuses i = some r) : step s = .refused r := by
  simp [step, hready, hcmds, hdec, href]

/-- The clock edge consumes a reserved word, and the cycle is as one between operations. -/
theorem State.systemEdge_reserved {s : State} {w : CmdWord} {rest : List CmdWord} {e : DecodeError}
    (hready : s.busy = false) (hcmds : s.cmds = w :: rest) (hdec : decode w = .error e) :
    s.systemEdge = { s with cmds := rest }.idle := by
  simp [State.systemEdge, State.hostTakes, State.hostInputs, State.edge, State.edgeAt, State.acceptEdge, hready, hcmds,
    hdec]

theorem decode_of_opcode_begin {w : CmdWord} (hop : fieldOpcode w = opBEGIN) :
    decode w = .ok (.begin (fieldSda w) (fieldScl w) (fieldHc w)) := if_pos hop

theorem afterSteps_begin_halfCycleUs (s : State) (sda scl : Byte) (hc : HalfCycle) :
    (s.afterSteps (.begin sda scl hc)).halfCycleUs = hc :=
  (operationSteps_frame (.begin sda scl hc) _).halfCycleUs

/-- Settles O12: kinds (a) to (d) by the decoder's answer, kind (e) as the BEGIN it decodes to. -/
theorem reservedWordsAreRefused : Obligations.ReservedWordsAreRefused := by
  refine ⟨fun s w rest e hready hcmds hdec => ?_, fun s w rest hready hcmds hop hhc => ?_, fun s sda scl hready => ?_⟩
  · rw [State.systemEdge_reserved hready hcmds hdec]
    exact ⟨step_reserved hready hcmds hdec, rfl, congrArg not hready⟩
  · have hzero : fieldHc w = 0#12 := hhc
    have hdec := decode_of_opcode_begin hop
    rw [hzero] at hdec
    rw [State.systemEdge_accept hready hcmds hdec]
    exact ⟨step_refuses hready hcmds hdec rfl, rfl, rfl⟩
  · exact ⟨_, exec_ready _ s hready, afterSteps_begin_halfCycleUs s sda scl 0#12⟩

end Sys2Proof.Machine
end

section
/-! PROOF. The sequencer between commands, at acceptance and inside an operation (40_sequencer.md R80 to R83, R86), and
which command a step runs (R91, 70_reset_and_hazards.md R185). -/

namespace Sys2Proof.Machine

/-! ## Between commands -/

section
variable {s : State} (hready : s.busy = false)
include hready

/-- With `busy = 0` and no word from the host an edge is an idle cycle. -/
theorem State.systemEdge_idle (hcmds : s.cmds = []) : s.systemEdge = s.idle := by
  simp [State.systemEdge, State.hostTakes, State.hostInputs, State.edge, State.edgeAt, State.idle, hready, hcmds]

theorem State.systemEdges_idle (hcmds : s.cmds = []) (n : Nat) : s.systemEdges (n + 1) = s.idle := by
  induction n generalizing s with
  | zero => exact State.systemEdge_idle hready hcmds
  | succ n ih =>
    rw [State.systemEdges, State.systemEdge_idle hready hcmds]
    exact ih (s := s.idle) hready hcmds

theorem step_idle (hcmds : s.cmds = []) : step s = .next s.idle := by
  simp [step, hready, hcmds]

end

/-- Settles O3: an idle cycle after an idle cycle changes nothing more. -/
theorem betweenCommandsNothingChanges : Obligations.BetweenCommandsNothingChanges :=
  fun _ n hready hcmds => ⟨State.systemEdges_idle hready hcmds n, step_idle hready hcmds, congrArg not hready⟩

/-! ## While busy -/

section
variable {s : State} (hbusy : s.busy = true)
include hbusy

/-- Without reset, an edge with `busy = 1` does not look at the command port. -/
theorem State.edge_busy {inp : Inputs} (hrst : inp.rstN = true) : s.edge inp = s.busyEdge Config.clkPerUs := by
  simp [State.edge, State.edgeAt, hrst, hbusy]

theorem step_busy : step s = .next (s.busyEdge Config.clkPerUs) := if_pos hbusy

/-- Only the completion edge, after the last row and its wait, ends an operation. -/
theorem State.finished_of_busyEdge_ready (clk : Nat) (h : (s.busyEdge clk).busy = false) :
    s.dly = 0#12 ∧ s.currentRow = none := by
  obtain ⟨-, e⟩ | ⟨r, -, -, e⟩ | ⟨hd, hrow, -⟩ := s.busyEdge_cases clk
  · simp [e, hbusy] at h
  · simp [e, hbusy] at h
  · exact ⟨hd, hrow⟩

end

/-- Settles O4: every edge without reset is the operation's own. -/
theorem busyBlockTakesNoCommand : Obligations.BusyBlockTakesNoCommand := by
  intro s hbusy
  obtain ⟨-, -, -, -, -, -, -, hcmds, -⟩ := s.busyEdge_frame Config.clkPerUs
  refine ⟨congrArg not hbusy, fun i => exec_busy i s hbusy, fun v v' w w' => ?_,
    ⟨_, step_busy hbusy, hcmds, s.systemEdge_busy hbusy⟩, fun inp hrst hend => ?_⟩
  · rw [State.edge_busy hbusy rfl, State.edge_busy hbusy rfl]
  · rw [State.edge_busy hbusy hrst] at hend
    exact State.finished_of_busyEdge_ready hbusy _ hend

/-! ## The result register inside an operation -/

@[simp] theorem State.perform_res (s : State) (a : Action) : (s.perform a).res = s.res := by cases a <;> rfl
@[simp] theorem State.perform_rspValid (s : State) (a : Action) : (s.perform a).rspValid = s.rspValid := by
  cases a <;> rfl

@[simp] theorem State.advance_res (s : State) : s.advance.res = s.res := by
  obtain ⟨b, l, h⟩ := s.advance_cases; rw [h]
@[simp] theorem State.advance_rspValid (s : State) : s.advance.rspValid = s.rspValid := by
  obtain ⟨b, l, h⟩ := s.advance_cases; rw [h]

/-- A cycle of a wait returns nothing. -/
theorem State.countEdge_returns_nothing (clk : Nat) (s : State) :
    (s.countEdge clk).rspValid = s.rspValid ∧ (s.countEdge clk).res = s.res := by
  simp only [State.countEdge]
  split_ifs <;> simp

/-- A row returns nothing. -/
theorem State.rowEdge_returns_nothing (clk : Nat) (s : State) (r : Row) :
    (s.rowEdge clk r).rspValid = s.rspValid ∧ (s.rowEdge clk r).res = s.res := by
  simp only [State.rowEdge]
  split_ifs <;> simp

/-- Settles O54: a cycle of a wait and a row leave `busy`, `rsp_valid` and `res` alone; the third kind of edge is the
completion. -/
theorem noPartialResult : Obligations.NoPartialResult := by
  intro clk s hbusy t
  obtain ⟨-, e⟩ | ⟨r, -, -, e⟩ | ⟨hd, hrow, e⟩ := s.busyEdge_cases clk <;> simp only [t, e]
  · obtain ⟨hvalid, hres⟩ := s.idle.countEdge_returns_nothing clk
    exact .inl ⟨by simpa using hbusy, hvalid, hres⟩
  · obtain ⟨hvalid, hres⟩ := s.idle.rowEdge_returns_nothing clk r
    exact .inl ⟨by simpa using hbusy, hvalid, hres⟩
  · exact .inr ⟨rfl, rfl, rfl, rfl, hd, hrow⟩

/-! ## Acceptance -/

/-- A word decodes to an instruction of its own opcode (30_encoding.md R61). -/
theorem opcode_of_decode {w : CmdWord} {i : Instr} (hdec : decode w = .ok i) : i.opcode = fieldOpcode w := by
  have hread : Reading w (.ok i) := hdec ▸ reading_decode w
  cases hread with
  | begin hop => exact hop.symm
  | formatN _ hop _ => exact hop.symm
  | wrb hop _ => exact hop.symm
  | wackl hop _ => exact hop.symm

/-- The accepting edge (40_sequencer.md R81). -/
theorem State.edge_accept {s : State} {w : CmdWord} {i : Instr} (hready : s.busy = false) (hdec : decode w = .ok i) :
    s.edge { rstN := true, cmdValid := true, cmd := w } = s.idle.acceptInstr i := by
  simp [State.edge, State.edgeAt, State.acceptEdge, hready, hdec]

/-- Settles O57: what acceptance does in general, and the two commands that treat the flag in their own way. -/
theorem acceptanceHandlesTheFlag : Obligations.AcceptanceHandlesTheFlag := by
  intro s w i hready hdec t
  have ht : t = s.idle.acceptInstr i := State.edge_accept hready hdec
  have haccept := acceptInstr_frame i s.idle
  rw [ht]
  refine ⟨haccept.busy, haccept.op.trans (opcode_of_decode hdec), haccept.lines, haccept.trace, haccept.flag, ?_, ?_,
    haccept.skip⟩
  · rintro rfl
    rfl
  · rintro rfl
    rfl

/-! ## The command a step runs -/

theorem step_runs {s : State} {w : CmdWord} {rest : List CmdWord} {i : Instr} (hready : s.busy = false)
    (hcmds : s.cmds = w :: rest) (hdec : decode w = .ok i) (href : s.refuses i = none) :
    step s = exec i { s with cmds := rest } := by
  simp [step, hready, hcmds, hdec, href]

theorem decode_of_decodeTableWord {w : Nat} {i : Instr} (h : decodeTableWord 32 w = some i) :
    decode (tableWord 32 w) = .ok i := by
  rw [decodeTableWord, if_pos le_rfl] at h
  cases hdec : decode (tableWord 32 w) with
  | ok j => simpa [hdec, Except.toOption] using h
  | error e => simp [hdec, Except.toOption] at h

/-- Settles O11: a well-formed command is not refused when it is a BEGIN or the block is configured. -/
theorem stepRunsTheHostsNextCommand : Obligations.StepRunsTheHostsNextCommand := by
  refine ⟨fun s w rest i hready hcmds hdec hwf hmay => ?_, fun s w i hdec hwf => ?_⟩
  · refine step_runs hready hcmds hdec ((s.refuses_eq_none_iff i).mpr ⟨hwf, ?_⟩)
    obtain hconf | ⟨sda, scl, hc, rfl⟩ := hmay
    · exact .inl hconf
    · exact .inr rfl
  · have href : (s.withFetchWord 32 w).refuses i = none := (State.refuses_eq_none_iff _ i).mpr ⟨hwf, .inl rfl⟩
    exact step_runs rfl rfl (decode_of_decodeTableWord hdec) href

end Sys2Proof.Machine
end

section
/-! PROOF. What the pad trace of an operation has in common for all levels sampled: its events up to those levels
(40_sequencer.md R89), their numbers (R91, 70_reset_and_hazards.md R200) and the SCL phases (40_sequencer.md R87). -/

namespace Sys2Proof.Machine

/-! ## Numbers of events -/

/-- A predicate that does not look at the sampled level counts the same in every group of a read bit. -/
theorem countP_readBits {p : Event → Bool} {n : Nat} (hp : ∀ v, (traceReadBit v).countP p = n) (vs : List Level) :
    (vs.flatMap traceReadBit).countP p = vs.length * n := by
  induction vs with
  | nil => simp
  | cons v vs ih => rw [List.flatMap_cons, List.countP_append, ih, hp, List.length_cons, Nat.succ_mul, Nat.add_comm]

/-- RDB has its leading events and eight groups. -/
theorem countP_traceRdb {p : Event → Bool} {n : Nat} (hp : ∀ v, (traceReadBit v).countP p = n) (l : Lines)
    (skip : Bool) {vs : List Level} (hlen : vs.length = 8) :
    (traceRdb l skip vs).countP p = (traceRdb l skip []).countP p + 8 * n := by
  simp [traceRdb, countP_readBits hp, hlen]

/-- Drive steps, waits, samples and all events of an operation's pad trace. -/
theorem OperationTrace.counts {l : Lines} {skip : Bool} {i : Instr} {es : PadTrace} (h : OperationTrace l skip i es) :
    es.countP Event.isDrive = i.driveSteps skip ∧ es.countP Event.isWait = i.waits skip ∧
    es.countP Event.isSample = i.samples ∧ es.length = i.driveSteps skip + i.waits skip + i.otherSteps := by
  cases h with
  | rdb vs hlen =>
    rw [← List.countP_true, countP_traceRdb (p := Event.isDrive) (fun _ => rfl) l skip hlen,
      countP_traceRdb (p := Event.isWait) (fun _ => rfl) l skip hlen,
      countP_traceRdb (p := Event.isSample) (fun _ => rfl) l skip hlen,
      countP_traceRdb (p := fun _ => true) (fun _ => rfl) l skip hlen]
    cases skip <;> exact ⟨rfl, rfl, rfl, rfl⟩
  | wackl level hcore => cases i <;> cases hcore <;> exact ⟨rfl, rfl, rfl, rfl⟩
  | _ => exact ⟨rfl, rfl, rfl, rfl⟩

/-- Settles O28: the counts of the pad trace that the rules give each operation. -/
theorem stepCountsOfEachOperation : Obligations.StepCountsOfEachOperation :=
  fun i s hready => ⟨_, exec_ready i s hready, (operationTrace_newEvents i s _).counts⟩

/-! ## The sampled levels -/

/-- Up to the sampled levels all groups of a read bit are one. -/
theorem map_shape_readBits (vs : List Level) :
    (vs.flatMap traceReadBit).map Event.shape = (List.replicate vs.length (traceReadBit LOW)).flatten := by
  induction vs with
  | nil => rfl
  | cons v vs ih =>
    rw [List.flatMap_cons, List.map_append, ih]
    rfl

/-- The requests, the flag and the command fix the pad trace up to the sampled levels. -/
theorem OperationTrace.map_shape_eq {l : Lines} {skip : Bool} {i : Instr} {es es' : PadTrace}
    (h : OperationTrace l skip i es) (h' : OperationTrace l skip i es') :
    es'.map Event.shape = es.map Event.shape := by
  cases h with
  | rdb vs hlen =>
    cases h' with
    | rdb vs' hlen' => simp only [traceRdb, List.map_append, map_shape_readBits, hlen, hlen']
    | wackl _ hcore => cases hcore
  | wackl level hcore =>
    cases h' with
    | wackl level' hcore' =>
      obtain rfl : level = level' := Instr.wackl.inj (hcore.symm.trans hcore')
      rfl
    | _ => cases hcore
  | _ =>
    cases h' with
    | wackl _ hcore => cases hcore
    | _ => rfl

/-- `s` with other written answers and another free environment. -/
def State.withEnv (answers : List Level) (run : Nat) (s : State) : State :=
  { s with envScript := answers, runNo := run }

section
variable (answers : List Level) (run : Nat) (s : State) (i : Instr)

theorem acceptInstr_withEnv : (s.withEnv answers run).acceptInstr i = (s.acceptInstr i).withEnv answers run := by
  cases i <;> rfl

/-- The requests and the bit index at the end of the steps do not depend on the environment. -/
theorem operationSteps_withEnv :
    (operationSteps i (s.withEnv answers run)).lines = (operationSteps i s).lines ∧
    (operationSteps i (s.withEnv answers run)).bit = (operationSteps i s).bit := by
  cases i with
  | wrb data =>
    rw [operationSteps, wrbSteps_eq, wrbSteps_eq]
    exact ⟨rfl, rfl⟩
  | rdb =>
    obtain ⟨vs, -, -, h⟩ := rdbSteps_eq s
    obtain ⟨vs', -, -, h'⟩ := rdbSteps_eq (s.withEnv answers run)
    rw [operationSteps, h, h']
    exact ⟨rfl, rfl⟩
  | _ => exact ⟨rfl, rfl⟩

/-- Nor do they at the end of an operation, nor the flag and what acceptance latched. -/
theorem afterSteps_withEnv :
    let t := s.afterSteps i
    let t' := (s.withEnv answers run).afterSteps i
    t'.lines = t.lines ∧ t'.stretchPending = t.stretchPending ∧ t'.op = t.op ∧ t'.bit = t.bit ∧ t'.lvl = t.lvl := by
  intro t t'
  obtain ⟨hlines, hbit⟩ := operationSteps_withEnv answers run (s.acceptInstr i) i
  have hsteps := operationSteps_frame i (s.acceptInstr i)
  have hsteps' := operationSteps_frame i ((s.acceptInstr i).withEnv answers run)
  have hflag : t'.stretchPending = t.stretchPending :=
    Bool.eq_iff_iff.mpr (((s.withEnv answers run).afterSteps_flag i).trans (s.afterSteps_flag i).symm)
  have ht' : t' = operationSteps i ((s.acceptInstr i).withEnv answers run) :=
    congrArg (operationSteps i) (acceptInstr_withEnv answers run s i)
  refine ⟨ht' ▸ hlines, hflag, ?_, ht' ▸ hbit, ?_⟩
  · rw [ht', hsteps'.op]
    exact hsteps.op.symm
  · rw [ht', hsteps'.lvl]
    exact hsteps.lvl.symm

end

/-- Settles O29: both runs start with the same requests and flag, so their traces have one shape. -/
theorem sampledLevelsNeverSteerTheBlock : Obligations.SampledLevelsNeverSteerTheBlock := by
  intro i s answers run hready
  exact ⟨_, _, exec_ready i s hready, exec_ready i (s.withEnv answers run) hready,
    (operationTrace_newEvents i s _).map_shape_eq (operationTrace_newEvents i (s.withEnv answers run) _),
    afterSteps_withEnv answers run s i⟩

/-! ## Waits -/

/-- The step tables of all operations, RDB's with and without its leading rows. -/
def stepTables : List StepTable :=
  [tableBegin, tableStart, tableStop, tableWrb, tableRdb, { tableRdb with lead := [] }, tableWackl, tableRack, tableRds]

/-- Row by row, for either level of SCL, the wait flag is the one the placement rule gives (40_sequencer.md R87). -/
theorem waitFlags_follow_rule : ∀ t ∈ stepTables, ∀ (c : Level), ∀ k < t.unrolled.length,
    ∀ p ∈ t.unrolled[k]?, p.1.wait.holds p.2 = p.1.flagByRule (t.unrolled[k + 1]?.map Prod.fst) c := by
  decide

/-- The SCL phases of `n` clock pulses that each end LOW, one wait in each phase. -/
def clockPulses (n : Nat) : List (Level × Nat) := (List.replicate n [(HIGH, 1), (LOW, 1)]).flatten

/-- The wait of each group's first row is the LOW phase before its pulse; the operation's last wait is the last one. -/
theorem sclPhases_writtenBits (bits : List Level) :
    sclPhases LOW 0 (bits.flatMap traceWrittenBit ++ [.wait]) = (LOW, 1) :: clockPulses bits.length := by
  induction bits with
  | nil => rfl
  | cons b bits ih => simp [traceWrittenBit, sclPhases, ih, clockPulses, List.replicate_succ]

/-- The wait of each group's last row is the LOW phase after its pulse. -/
theorem sclPhases_readBits (vs : List Level) :
    sclPhases LOW 1 (vs.flatMap traceReadBit) = (LOW, 1) :: clockPulses vs.length := by
  induction vs with
  | nil => rfl
  | cons v vs ih => simp [traceReadBit, sclPhases, ih, clockPulses, List.replicate_succ]

/-- RDB after an RDS: SCL is HIGH already and the first group's drive step repeats it. -/
theorem sclPhases_readBits_released (v : Level) (vs : List Level) :
    sclPhases HIGH 0 ((v :: vs).flatMap traceReadBit) = clockPulses (vs.length + 1) := by
  simp [traceReadBit, sclPhases, sclPhases_readBits, clockPulses, List.replicate_succ]

section
variable {l : Lines} {skip : Bool} {i : Instr} {es : PadTrace} (h : OperationTrace l skip i es)
include h

theorem OperationTrace.sclPhases_byte (hi : (∃ d, i = .wrb d) ∨ (i = .rdb ∧ skip = false)) :
    sclPhases LOW 0 es = (LOW, 1) :: clockPulses 8 := by
  obtain ⟨d, rfl⟩ | ⟨rfl, rfl⟩ := hi
  · cases h with
    | wrb => exact sclPhases_writtenBits (dataBits d)
    | wackl _ hcore => cases hcore
  · cases h with
    | rdb vs hlen => exact hlen ▸ sclPhases_readBits vs
    | wackl _ hcore => cases hcore

theorem OperationTrace.sclPhases_probedByte (hi : i = .rdb) (hskip : skip = true) :
    sclPhases HIGH 0 es = clockPulses 8 := by
  subst hi hskip
  cases h with
  | rdb vs hlen =>
    cases vs with
    | nil => cases hlen
    | cons v vs => exact (sclPhases_readBits_released v vs).trans (congrArg clockPulses hlen)
  | wackl _ hcore => cases hcore

theorem OperationTrace.sclPhases_acknowledge (hi : (∃ level, i.core = .wackl level) ∨ i = .rack) :
    sclPhases LOW 0 es = [(LOW, 1), (HIGH, 1), (LOW, 1)] := by
  cases h with
  | wackl level hcore => rfl
  | rack v => rfl
  | _ => simp [Instr.core] at hi

end

/-- Settles O56: the rule row by row in the tables, the phases from the pad traces. -/
theorem waitFlagsFollowThePlacementRule : Obligations.WaitFlagsFollowThePlacementRule := by
  refine ⟨fun t ht c k r b hrow => ?_, fun i s hready => ?_⟩
  · have hk : k < t.unrolled.length := (List.getElem?_eq_some_iff.mp hrow).1
    exact waitFlags_follow_rule t ht c k hk (r, b) hrow
  · have htrace := operationTrace_newEvents i s (s.afterSteps i).result
    exact ⟨_, exec_ready i s hready, htrace.sclPhases_byte, htrace.sclPhases_probedByte, htrace.sclPhases_acknowledge⟩

end Sys2Proof.Machine
end

section
/-! PROOF. BEGIN writes the configuration registers and gives the configuration pulse, and nothing else does either
(41_config.md R100, R101, R105). -/

namespace Sys2Proof.Machine

/-! ## BEGIN and the other operations -/

/-- Settles O14: acceptance writes the operands, the steps B0 and B1 the rest. -/
theorem beginResult : Obligations.BeginResult := by
  intro s sda scl hc hready
  refine ⟨rfl, ?_⟩
  rw [exec_begin_ready s sda scl hc hready, beginSteps_eq]
  simp [State.complete, hready, opBEGIN]

theorem acceptInstr_halfCycleUs {i : Instr} (hi : ∀ sda scl hc, i ≠ .begin sda scl hc) (s : State) :
    (s.acceptInstr i).halfCycleUs = s.halfCycleUs := by
  cases i with
  | begin sda scl hc => exact absurd rfl (hi sda scl hc)
  | _ => rfl

/-- No operation but BEGIN has a configuration step. -/
theorem OperationTrace.od_not_mem {l : Lines} {skip : Bool} {i : Instr} {es : PadTrace}
    (h : OperationTrace l skip i es) (hi : ∀ sda scl hc, i ≠ .begin sda scl hc) (a b : Byte) :
    Event.od a b ∉ es := by
  cases h with
  | begin sda scl hc => exact absurd rfl (hi sda scl hc)
  | start => simp [traceStart]
  | stop => simp [traceStop]
  | wrb data => simp [traceWrb, traceWrittenBit]
  | rdb vs hlen => cases skip <;> simp [traceRdb, traceReadBit]
  | wackl level hcore => simp [traceWackl]
  | rack v => simp [traceRack]
  | rds v => simp [traceRds]

/-- Settles O26: no steps write the configuration registers, and of the acceptances only BEGIN's does. -/
theorem onlyBeginConfigures : Obligations.OnlyBeginConfigures := by
  intro i s hready
  refine ⟨_, exec_ready i s hready, fun hi => ?_, ?_⟩
  · have hsteps := operationSteps_frame i (s.acceptInstr i)
    obtain ⟨hsda, hscl⟩ := (acceptInstr_frame i s).pins hi
    refine ⟨hsteps.sdaPin.trans hsda, hsteps.sclPin.trans hscl,
      hsteps.halfCycleUs.trans (acceptInstr_halfCycleUs hi s), ?_⟩
    rintro e he a b rfl
    exact (operationTrace_newEvents i s _).od_not_mem hi a b he
  · rintro sda scl hc rfl
    exact ⟨rfl, rfl, rfl, newEvents_begin s sda scl hc⟩

/-! ## The configuration pulse -/

@[simp] theorem State.advance_odCfg (s : State) : s.advance.odCfg = s.odCfg := by
  obtain ⟨b, l, h⟩ := s.advance_cases; rw [h]

theorem State.perform_odCfg {a : Action} (ha : a ≠ .cfgOd) (s : State) : (s.perform a).odCfg = s.odCfg := by
  cases a with
  | cfgOd => exact absurd rfl ha
  | _ => rfl

@[simp] theorem State.countEdge_odCfg (clk : Nat) (s : State) : (s.countEdge clk).odCfg = s.odCfg := by
  simp only [State.countEdge]
  split_ifs <;> simp

/-- Neither the wait nor the move to the next row touches the pulse that a row's action gives. -/
@[simp] theorem State.rowEdge_odCfg (clk : Nat) (s : State) (r : Row) :
    (s.rowEdge clk r).odCfg = (s.perform r.action).odCfg := by
  simp only [State.rowEdge]
  split_ifs <;> simp

/-- In all step tables the configuration step stands in one row, B0 of BEGIN (41_config.md R105). -/
theorem cfgOd_row : ∀ op, ∀ r ∈ (tableOf op).rows, r.action = .cfgOd → op = opBEGIN ∧ r.label = .B0 := by
  decide

/-- An edge inside an operation after which `od_cfg` is 1 did row B0 of a BEGIN. -/
theorem State.busyEdge_odCfg {clk : Nat} {s : State} (h : (s.busyEdge clk).odCfg = true) :
    s.dly = 0#12 ∧ s.op = opBEGIN ∧ s.step = .B0 := by
  obtain ⟨-, e⟩ | ⟨r, hd, hrow, e⟩ | ⟨-, -, e⟩ := s.busyEdge_cases clk <;> rw [e] at h
  · simp at h
  · rw [State.rowEdge_odCfg] at h
    have hact : r.action = .cfgOd := by
      by_contra hact
      simp [State.perform_odCfg hact] at h
    have hstep : r.label = s.step := by simpa using List.find?_some hrow
    obtain ⟨hop, hlabel⟩ := cfgOd_row s.op r (List.mem_of_find?_eq_some hrow) hact
    exact ⟨hd, hop, hstep ▸ hlabel⟩
  · simp at h

/-- Acceptance gives no pulse, and neither does a reserved word. -/
theorem State.acceptEdge_odCfg (s : State) (w : CmdWord) : (s.acceptEdge w).odCfg = false := by
  rw [State.acceptEdge]
  split
  next i _ => cases i <;> rfl
  next => rfl

/-- No other edge sets `od_cfg`. -/
theorem State.edge_odCfg {s : State} {inp : Inputs} (h : (s.edge inp).odCfg = true) :
    inp.rstN = true ∧ s.busy = true ∧ s.dly = 0#12 ∧ s.op = opBEGIN ∧ s.step = .B0 := by
  simp only [State.edge, State.edgeAt] at h
  split_ifs at h with hrst hbusy hvalid
  · exact ⟨hrst, hbusy, State.busyEdge_odCfg h⟩
  · simp [State.acceptEdge_odCfg] at h
  · simp at h
  · simp at h

/-- The edge after the acceptance of a BEGIN does row B0. -/
theorem State.busyEdge_acceptBegin (clk : Nat) {s : State} (hd : s.dly = 0#12) (sda scl : Byte) (hc : HalfCycle) :
    (s.acceptBegin sda scl hc).busyEdge clk =
      { s.acceptBegin sda scl hc with odCfg := true, step := .B1, trace := s.trace ++ [.od sda scl] } := by
  have hrow : (s.acceptBegin sda scl hc).currentRow = some ⟨.B0, .cfgOd, .no⟩ := rfl
  rw [State.busyEdge_row (s := s.acceptBegin sda scl hc) clk hd hrow]
  rfl

/-- Settles O60: acceptance, then row B0, and the position B1 after it, from which no edge sets the pulse again. -/
theorem configurationPulseOfBegin : Obligations.ConfigurationPulseOfBegin := by
  refine ⟨?_, fun s inp => State.edge_odCfg⟩
  intro s w sda scl hc inp inp' hready hd hdec hrst a b
  have ha : a = s.idle.acceptBegin sda scl hc := State.edge_accept hready hdec
  have hb : b = { a with odCfg := true, step := .B1, trace := s.trace ++ [.od sda scl] } := by
    have hbusy : a.busy = true := by rw [ha, State.acceptBegin_busy]
    have hedge : b = a.busyEdge Config.clkPerUs := State.edge_busy hbusy hrst
    rw [hedge, ha]
    exact State.busyEdge_acceptBegin _ hd sda scl hc
  have hcleared : (b.edge inp').odCfg = false := by
    refine Bool.eq_false_iff.mpr fun hpulse => ?_
    obtain ⟨-, -, -, -, hstep⟩ := State.edge_odCfg hpulse
    simp [hb] at hstep
  obtain ⟨hquiet, hsda, hscl⟩ : a.odCfg = false ∧ a.sdaPin = sda ∧ a.sclPin = scl := by
    rw [ha]
    exact ⟨rfl, rfl, rfl⟩
  exact ⟨hquiet, hsda, hscl, congrArg State.odCfg hb, (congrArg State.sdaPin hb).trans hsda,
    (congrArg State.sclPin hb).trans hscl, hb, hcleared⟩

end Sys2Proof.Machine
end

section
/-! PROOF. START and STOP, the bus conditions of every operation, and the host's grammar (42_conditions.md R110 to R114,
43_byte_transfer.md R121, R127, R128, 44_ack.md R143, 45_stretch.md R154, 70_reset_and_hazards.md R188). -/

namespace Sys2Proof.Machine

/-! ## START and STOP -/

section
variable {s : State} (hready : s.busy = false)
include hready

/-- From a ready state START is acceptance, the steps S1 to S3, and completion. -/
theorem exec_start_ready : exec .start s = .next ((startSteps (s.acceptPlain opSTART .S1)).complete 0x00#8) :=
  State.whenReady_ready s (fun s => (startSteps (s.acceptPlain opSTART .S1)).complete 0x00#8) hready

/-- From a ready state STOP is acceptance, the steps P1 to P3, and completion. -/
theorem exec_stop_ready : exec .stop s = .next ((stopSteps (s.acceptPlain opSTOP .P1)).complete 0x00#8) :=
  State.whenReady_ready s (fun s => (stopSteps (s.acceptPlain opSTOP .P1)).complete 0x00#8) hready

end

/-- Settles O15: acceptance clears the flag and latches the opcode, the steps S1 to S3 do the rest. -/
theorem startResult : Obligations.StartResult := by
  refine ⟨rfl, fun s hready => ?_⟩
  rw [exec_start_ready hready, startSteps_eq]
  simp [State.complete, State.lines, hready, opSTART]

/-- Settles O16: acceptance clears the flag and latches the opcode, the steps P1 to P3 do the rest. -/
theorem stopResult : Obligations.StopResult := by
  refine ⟨rfl, fun s hready => ?_⟩
  rw [exec_stop_ready hready, stopSteps_eq]
  simp [State.complete, State.lines, hready, opSTOP]

/-- Settles O42: the table of R111, row by row. -/
theorem startFromEachLineState : Obligations.StartFromEachLineState := by
  intro s hready
  have hevents : newEvents s ((startSteps (s.acceptPlain opSTART .S1)).complete 0x00#8) = traceStart s.lines :=
    newEvents_of_append _ _ _ (congrArg State.trace (startSteps_eq _))
  refine ⟨_, exec_start_ready hready, hevents, rfl, ?_⟩
  rw [hevents]
  refine ⟨fun h => ?_, fun h => ?_, fun h => ?_, fun h => ?_⟩ <;> rw [h] <;> exact ⟨rfl, rfl⟩

/-- Settles O43: the table of R114, row by row. -/
theorem stopFromEachLineState : Obligations.StopFromEachLineState := by
  intro s hready
  have hevents : newEvents s ((stopSteps (s.acceptPlain opSTOP .P1)).complete 0x00#8) = traceStop s.lines :=
    newEvents_of_append _ _ _ (congrArg State.trace (stopSteps_eq _))
  refine ⟨_, exec_stop_ready hready, hevents, rfl, ?_⟩
  rw [hevents]
  refine ⟨fun h => ?_, fun h => ?_, fun h => ?_, fun h => ?_⟩ <;> rw [h] <;> exact ⟨rfl, rfl⟩

/-! ## The conditions of each pad trace -/

theorem conditions_traceStart (l : Lines) :
    conditions l (traceStart l) = if l = (LOW, HIGH) then [.stop, .start] else [.start] := by
  obtain ⟨sda, scl⟩ := l
  cases sda <;> cases scl <;> rfl

theorem conditions_traceStop (l : Lines) :
    conditions l (traceStop l) = if l = (HIGH, HIGH) then [.start, .stop] else [.stop] := by
  obtain ⟨sda, scl⟩ := l
  cases sda <;> cases scl <;> rfl

/-- A drive step that leaves SCL LOW makes no condition. -/
@[simp] theorem conditionOf_scl_low_after (cur : Lines) (sda : Level) : conditionOf cur (sda, LOW) = none := by
  simp [conditionOf]

/-- Nor does one that finds SCL LOW. -/
@[simp] theorem conditionOf_scl_low_before (sda : Level) (next : Lines) : conditionOf (sda, LOW) next = none := by
  simp [conditionOf]

/-- Nor does one that leaves SDA as it is. -/
@[simp] theorem conditionOf_same_sda (sda scl scl' : Level) : conditionOf (sda, scl) (sda, scl') = none := by
  cases sda <;> simp [conditionOf]

/-- The data bit changes while SCL is LOW (43_byte_transfer.md R121). -/
theorem conditions_writtenBits (bits : List Level) (sda : Level) :
    conditions (sda, LOW) (bits.flatMap traceWrittenBit) = [] := by
  induction bits generalizing sda with
  | nil => rfl
  | cons b bits ih => simp [traceWrittenBit, conditions, ih]

theorem conditions_traceWrb (l : Lines) (d : Byte) : conditions l (traceWrb l d) = [] := by
  simp [traceWrb, conditions_append, conditions, conditions_writtenBits]

/-- SDA stays released through the groups of the read bits (43_byte_transfer.md R127). -/
theorem conditions_readBits_released (vs : List Level) (scl : Level) :
    conditions (HIGH, scl) (vs.flatMap traceReadBit) = [] := by
  induction vs generalizing scl with
  | nil => rfl
  | cons v vs ih => simp [traceReadBit, conditions, ih]

/-- Releasing both lines makes a stop condition from `(LOW, HIGH)` and none otherwise. -/
theorem toList_conditionOf_released (cur : Lines) :
    (conditionOf cur (HIGH, HIGH)).toList = if cur = (LOW, HIGH) then [.stop] else [] := by
  rw [conditionOf_released]
  split <;> rfl

/-- Without its leading steps, RDB's one change of SDA is where its first group releases both lines
(43_byte_transfer.md R128). -/
theorem conditions_traceRdb (l : Lines) (skip : Bool) {vs : List Level} (hlen : vs.length = 8) :
    conditions l (traceRdb l skip vs) = if skip = true ∧ l = (LOW, HIGH) then [.stop] else [] := by
  cases skip with
  | false => simp [traceRdb, conditions, conditions_readBits_released]
  | true =>
    cases vs with
    | nil => cases hlen
    | cons v vs =>
      simp [traceRdb, traceReadBit, conditions, conditions_readBits_released, toList_conditionOf_released]

theorem conditions_traceWackl (l : Lines) (level : Level) : conditions l (traceWackl l level) = [] := by
  simp [traceWackl, conditions]

theorem conditions_traceRack (l : Lines) (v : Level) : conditions l (traceRack l v) = [] := by
  simp [traceRack, conditions]

/-- RDS raises SCL alone. -/
theorem conditions_traceRds (l : Lines) (v : Level) : conditions l (traceRds l v) = [] := by
  simp [traceRds, conditions, conditionOf_same_sda l.1 l.2]

/-- The conditions that an operation issued with the requests at `l` and the flag at `skip` makes. -/
def conditionsFrom (l : Lines) (skip : Bool) : Instr → List Condition
  | .begin _ _ _ => if l = (LOW, HIGH) then [.stop] else []
  | .start => if l = (LOW, HIGH) then [.stop, .start] else [.start]
  | .stop => if l = (HIGH, HIGH) then [.start, .stop] else [.stop]
  | .rdb => if skip = true ∧ l = (LOW, HIGH) then [.stop] else []
  | .wrb _ => []
  | .wackl _ => []
  | .wack => []
  | .wnack => []
  | .rack => []
  | .rds => []

theorem OperationTrace.conditions_eq {l : Lines} {skip : Bool} {i : Instr} {es : PadTrace}
    (h : OperationTrace l skip i es) : conditions l es = conditionsFrom l skip i := by
  cases h with
  | begin sda scl hc =>
    rw [conditions_traceBegin, toList_conditionOf_released, conditionsFrom]
  | start => exact conditions_traceStart l
  | stop => exact conditions_traceStop l
  | wrb data => exact conditions_traceWrb l data
  | rdb vs hlen => exact conditions_traceRdb l skip hlen
  | wackl level hcore =>
    rw [conditions_traceWackl]
    cases i <;> cases hcore <;> rfl
  | rack v => exact conditions_traceRack l v
  | rds v => exact conditions_traceRds l v

/-! ## The requests at the end of an operation -/

/-- The requests at the end of an operation issued with the requests at `l`. -/
def linesAtEnd (l : Lines) : Instr → Lines
  | .begin _ _ _ => (HIGH, HIGH)
  | .start => (LOW, HIGH)
  | .stop => (HIGH, HIGH)
  | .wrb data => (dataBit data 0#3, LOW)
  | .rdb => (HIGH, LOW)
  | .wackl _ => (HIGH, LOW)
  | .wack => (HIGH, LOW)
  | .wnack => (HIGH, LOW)
  | .rack => (HIGH, LOW)
  | .rds => (l.1, HIGH)

theorem State.afterSteps_lines (s : State) (i : Instr) : (s.afterSteps i).lines = linesAtEnd s.lines i := by
  cases i with
  | wrb data => exact congrArg State.lines (wrbSteps_eq (s.acceptWrb data))
  | rdb =>
    obtain ⟨vs, -, -, h⟩ := rdbSteps_eq s.acceptRdb
    exact congrArg State.lines h
  | _ => rfl

/-! ## The host's grammar -/

section
variable {p q : Phase} {i : Instr} {s t : State} (hfits : p.fits s = true) (hnext : p.next i = some q)
include hfits hnext

/-- The grammar issues BEGIN and START with SDA released. -/
theorem Phase.sda_released (hi : (∃ sda scl hc, i = .begin sda scl hc) ∨ i = .start) : s.lastSda = HIGH := by
  obtain ⟨sda, scl, hc, rfl⟩ | rfl := hi <;> cases p <;> simp_all [Phase.next, Phase.fits]

/-- The grammar issues STOP with SCL held LOW. -/
theorem Phase.scl_low_of_stop (hi : i = .stop) : s.lastScl = LOW := by
  subst hi
  cases p <;> simp_all [Phase.next, Phase.fits]

/-- The grammar issues RDB with the flag clear, or after an RDS that left SDA released. -/
theorem Phase.flag_clear_or_sda_released (hi : i = .rdb) (hp : p ≠ .probedLow) :
    s.stretchPending = false ∨ s.lastSda = HIGH := by
  subst hi
  cases p <;> simp_all [Phase.next, Phase.fits]

/-- A command of R188's formula makes its own condition from what its phase finds, unless it is the RDB after an RDS
that directly followed a START. -/
theorem Phase.conditionsFrom_eq_own (hi : ¬(p = .probedLow ∧ i = .rdb)) :
    conditionsFrom s.lines s.stretchPending i = ownConditions i := by
  cases i with
  | begin sda scl hc =>
    have hsda := Phase.sda_released hfits hnext (.inl ⟨sda, scl, hc, rfl⟩)
    simp [conditionsFrom, ownConditions, State.lines, hsda]
  | start =>
    have hsda := Phase.sda_released hfits hnext (.inr rfl)
    simp [conditionsFrom, ownConditions, State.lines, hsda]
  | stop =>
    have hscl := Phase.scl_low_of_stop hfits hnext rfl
    simp [conditionsFrom, ownConditions, State.lines, hscl]
  | rdb =>
    obtain hflag | hsda := Phase.flag_clear_or_sda_released hfits hnext rfl fun hp => hi ⟨hp, rfl⟩
    · simp [conditionsFrom, ownConditions, hflag]
    · simp [conditionsFrom, ownConditions, State.lines, hsda]
  | _ => rfl

/-- An RDS that directly follows a START, or another such RDS, finds SDA LOW and any other RDS finds it released; the
next phase tells which. -/
theorem Phase.sda_of_probed (hi : i = .rds) :
    (q = .probedLow ∧ s.lastSda = LOW) ∨ (q = .probed ∧ s.lastSda = HIGH) := by
  subst hi
  cases p <;> simp_all [Phase.next, Phase.fits]

/-- The requests and the flag that a command of the formula ends with are those that the next phase finds. Of every
command but RDS both are fixed by the command. -/
theorem Phase.fits_next (hlines : t.lines = linesAtEnd s.lines i) (hflag : t.stretchPending = true ↔ i = .rds) :
    q.fits t = true := by
  have hsda : t.lastSda = (linesAtEnd s.lines i).1 := congrArg Prod.fst hlines
  have hscl : t.lastScl = (linesAtEnd s.lines i).2 := congrArg Prod.snd hlines
  cases i with
  | rds =>
    have hset : t.stretchPending = true := hflag.mpr rfl
    obtain ⟨rfl, hlow⟩ | ⟨rfl, hreleased⟩ := Phase.sda_of_probed hfits hnext rfl
    · simp [Phase.fits, hsda, hscl, hset, linesAtEnd, State.lines, hlow]
    · simp [Phase.fits, hsda, hscl, hset, linesAtEnd, State.lines, hreleased]
  | _ =>
    have hclear : t.stretchPending = false := by simpa using hflag
    simp only [Phase.next] at hnext
    split_ifs at hnext <;> cases hnext <;> simp [Phase.fits, hsda, hscl, hclear, linesAtEnd]

end

/-- After an RDS that directly followed a START, SDA is still LOW under a released SCL. -/
theorem Phase.conditionsFrom_probedLow {s : State} (hfits : Phase.probedLow.fits s = true) :
    conditionsFrom s.lines s.stretchPending .rdb = [.stop] := by
  obtain ⟨⟨hsda, hscl⟩, hflag⟩ : (s.lastSda = LOW ∧ s.lastScl = HIGH) ∧ s.stretchPending = true := by
    simpa [Phase.fits] using hfits
  simp [conditionsFrom, State.lines, hsda, hscl, hflag]

/-- The reading of the last byte's WNACK only forbids commands. -/
theorem Phase.next_of_allowed {p q : Phase} {i : Instr} (h : p.allowed i = some q) : p.next i = some q := by
  rw [Phase.allowed] at h
  split at h
  · cases h
  · exact h

/-- Settles O51: what an operation does to the requests and the flag is what the next phase finds, and its conditions
are those of its pad trace. -/
theorem grammarMakesOnlyOwnConditions : Obligations.GrammarMakesOnlyOwnConditions := by
  refine ⟨fun p q i s hready hfits hnext => ?_, fun p q i => Phase.next_of_allowed⟩
  refine ⟨_, exec_ready i s hready, Phase.fits_next hfits hnext (s.afterSteps_lines i) (s.afterSteps_flag i), ?_⟩
  rw [(operationTrace_newEvents i s _).conditions_eq]
  refine ⟨?_, Phase.conditionsFrom_eq_own hfits hnext⟩
  rintro rfl rfl
  exact Phase.conditionsFrom_probedLow hfits

end Sys2Proof.Machine
end

section
/-! PROOF. Byte transfers: what WRB and RDB do in full, the byte RDB makes of its samples, and the two of them on a
loopback bus (43_byte_transfer.md R120, R121, R125 to R128, R130). -/

namespace Sys2Proof.Machine

/-! ## WRB -/

/-- A format D word is its opcode's pattern with the data byte in the low bits (30_encoding.md R63). -/
theorem encode_wrb_eq (d : Byte) : encode (.wrb d) = 0x40000000#32 ||| d.setWidth 32 := rfl

/-- From a ready state WRB is acceptance, its 25 steps, and completion. -/
theorem exec_wrb_ready {s : State} (d : Byte) (hready : s.busy = false) :
    exec (.wrb d) s = .next ((wrbSteps (s.acceptWrb d)).complete 0x00#8) :=
  State.whenReady_ready s (fun s => (wrbSteps (s.acceptWrb d)).complete 0x00#8) hready

/-- Settles O17: acceptance latches the byte and clears the flag, the steps drive it out. -/
theorem wrbResult : Obligations.WrbResult := by
  intro s d hready
  obtain ⟨hdrive, hwait, -, -⟩ := (OperationTrace.wrb (l := s.lines) (skip := false) d).counts
  refine ⟨encode_wrb_eq d, ⟨hdrive, hwait⟩, ?_⟩
  rw [exec_wrb_ready d hready, wrbSteps_eq]
  simp [State.complete, State.lines, dataBit, opWRB, hready]

/-! ## The byte of the samples -/

theorem byteOf_eq_foldl_shiftIn (vs : List Level) : byteOf vs = vs.foldl shiftIn 0x00#8 := by
  induction vs using List.reverseRecOn with
  | nil => rfl
  | append_singleton vs v ih => rw [byteOf_append, ih, List.foldl_append, List.foldl_cons, List.foldl_nil]

/-- The bits above the levels shifted in so far are 0 (43_byte_transfer.md R126). -/
theorem foldl_shiftIn_getLsbD_above (vs : List Level) {j : Nat} (hj : vs.length ≤ j) :
    (vs.foldl shiftIn 0x00#8).getLsbD j = false := by
  induction vs using List.reverseRecOn generalizing j with
  | nil => exact BitVec.getLsbD_zero
  | append_singleton vs v ih =>
    rw [List.length_append, List.length_singleton] at hj
    obtain ⟨j, rfl⟩ : ∃ k, j = k + 1 := ⟨j - 1, by omega⟩
    rw [List.foldl_append, List.foldl_cons, List.foldl_nil]
    by_cases hlt : j < 7
    · rw [shiftIn_getLsbD_succ _ _ hlt]
      exact ih (by omega)
    · exact BitVec.getLsbD_of_ge _ _ (by omega)

/-- The bits of a byte, most significant first, make that byte. -/
theorem byteOf_dataBits (d : Byte) : byteOf (dataBits d) = d := by
  refine BitVec.eq_of_getLsbD_eq fun i hi => ?_
  have hbit := foldl_shiftIn_getLsbD (dataBits d) 0x00#8 (k := 7 - i) (show 7 - i < 8 by omega) le_rfl
  rw [dataBits_getElem? d (by omega), show 7 - (7 - i) = i by omega,
    show (dataBits d).length - 1 - (7 - i) = i from show 8 - 1 - (7 - i) = i by omega] at hbit
  rw [byteOf_eq_foldl_shiftIn]
  exact (Option.some.inj hbit).symm

/-! ## RDB -/

/-- The state in which an RDB issued in `s` completes when its samples returned the levels `vs` (43_byte_transfer.md
R125). -/
def State.afterRdb (s : State) (vs : List Level) : State :=
  { s with
    skip := s.stretchPending, stretchPending := false, lastSda := HIGH, lastScl := LOW, res := byteOf vs,
    op := opRDB, step := .fin, bit := 0#3, shreg := byteOf vs, dly := 0#12, presc := Config.clkPerUs - 1,
    rspValid := true, odCfg := false, envScript := s.envScript.drop 8,
    trace := s.trace ++ traceRdb s.lines s.stretchPending vs }

/-- From a ready state RDB is acceptance, its steps, and completion with the byte accumulated in `shreg`. -/
theorem exec_rdb_ready {s : State} (hready : s.busy = false) :
    exec .rdb s = .next ((rdbSteps s.acceptRdb).complete (rdbSteps s.acceptRdb).shreg) :=
  State.whenReady_ready s (fun s => (rdbSteps s.acceptRdb).complete (rdbSteps s.acceptRdb).shreg) hready

/-- From a ready state RDB takes eight samples, the scripted answers first, and completes with their byte. -/
theorem exec_rdb_eq_afterRdb {s : State} (hready : s.busy = false) :
    ∃ vs : List Level, vs.length = 8 ∧ s.scripts vs ∧ exec .rdb s = .next (s.afterRdb vs) := by
  obtain ⟨vs, hlen, hscript, hsteps⟩ := rdbSteps_eq s.acceptRdb
  refine ⟨vs, hlen, hscript, ?_⟩
  rw [exec_rdb_ready hready, hsteps]
  simp [State.complete, State.afterRdb, State.lines, byteOf_eq_foldl_shiftIn, hready]

/-- Settles O18: acceptance copies the flag to `skip` and clears it, the steps take the eight samples. -/
theorem rdbResult : Obligations.RdbResult := by
  refine ⟨rfl, fun s hready => ?_⟩
  obtain ⟨vs, hlen, hscript, hexec⟩ := exec_rdb_eq_afterRdb hready
  exact ⟨vs, hlen, fun k hk => hscript k (hlen ▸ hk), hexec⟩

/-- As many levels as a script begins with, in the script's order, are that beginning. -/
theorem State.scripts.eq_of_append {s : State} {vs ws rest : List Level} (h : s.scripts vs)
    (hlen : vs.length = ws.length) (hscript : s.envScript = ws ++ rest) : vs = ws := by
  refine List.ext_getElem? fun k => ?_
  by_cases hk : k < ws.length
  · rw [List.getElem?_eq_getElem hk]
    refine h k (hlen ▸ hk) _ ?_
    rw [hscript, List.getElem?_append_left hk, List.getElem?_eq_getElem hk]
  · rw [List.getElem?_eq_none (by omega), List.getElem?_eq_none (by omega)]

/-- RDB with its eight answers written down samples exactly those. -/
theorem exec_rdb_scripted {s : State} {vs rest : List Level} (hready : s.busy = false) (hlen : vs.length = 8)
    (hscript : s.envScript = vs ++ rest) : exec .rdb s = .next (s.afterRdb vs) := by
  obtain ⟨ws, hlen', hscripts, hexec⟩ := exec_rdb_eq_afterRdb hready
  rwa [hscripts.eq_of_append (hlen'.trans hlen.symm) hscript] at hexec

/-- What an RDB with its eight answers written down returns, uses up and records, whatever the flag: R200's numbers of
drive steps and waits. -/
theorem exec_rdb_scripted_result {s : State} {vs rest : List Level} (hready : s.busy = false) (hlen : vs.length = 8)
    (hscript : s.envScript = vs ++ rest) :
    ∃ t, exec .rdb s = .next t ∧ t.res = byteOf vs ∧ t.envScript = rest ∧ t.stretchPending = false ∧
      t.trace = s.trace ++ traceRdb s.lines s.stretchPending vs ∧
      (newEvents s t).countP Event.isDrive = Instr.rdb.driveSteps s.stretchPending ∧
      (newEvents s t).countP Event.isWait = Instr.rdb.waits s.stretchPending := by
  have hrest : (s.afterRdb vs).envScript = rest := by rw [State.afterRdb, hscript, ← hlen, List.drop_left]
  obtain ⟨hdrive, hwait, -, -⟩ := (OperationTrace.rdb (l := s.lines) (skip := s.stretchPending) vs hlen).counts
  refine ⟨s.afterRdb vs, exec_rdb_scripted hready hlen hscript, rfl, hrest, rfl, rfl, ?_⟩
  rw [newEvents_of_append s (s.afterRdb vs) _ rfl]
  exact ⟨hdrive, hwait⟩

/-- Settles O19: with the flag clear nothing is skipped. -/
theorem rdbReadsScriptedByte : Obligations.RdbReadsScriptedByte := by
  intro s vs rest hready hflag hlen hscript
  obtain ⟨t, hexec, hres, hrest, -, hevents⟩ := exec_rdb_scripted_result hready hlen hscript
  rw [hflag] at hevents
  exact ⟨t, hexec, hres, hrest, hevents⟩

/-- Settles O20: with the flag set the leading steps are skipped, and the flag is clear afterwards. -/
theorem rdbAfterProbeSkipsLeadingSteps : Obligations.RdbAfterProbeSkipsLeadingSteps := by
  intro s vs rest hready hflag hlen hscript
  obtain ⟨t, hexec, hres, hrest, hclear, hevents⟩ := exec_rdb_scripted_result hready hlen hscript
  rw [hflag] at hevents
  exact ⟨t, hexec, hres, hrest, hclear, hevents⟩

/-! ## Rounds of RDB's group -/

/-- From an empty `shreg` any number of rounds leave the byte of their samples there, and `res` alone. -/
theorem foldl_rdbBit_samples (bits : List (BitVec 3)) {s : State} (hshreg : s.shreg = 0x00#8) :
    ∃ vs : List Level, vs.length = bits.length ∧ (bits.foldl rdbBit s).res = s.res ∧
      (bits.foldl rdbBit s).shreg = vs.foldl shiftIn 0x00#8 ∧
      sampledLevels (newEvents s (bits.foldl rdbBit s)) = vs := by
  cases bits with
  | nil => exact ⟨[], rfl, rfl, hshreg, by simp [newEvents, sampledLevels]⟩
  | cons b bits =>
    obtain ⟨vs, hlen, -, hrounds⟩ := foldl_rdbBit_eq bits b s
    rw [hrounds, newEvents_of_append s (s.afterReadBits _ vs) (vs.flatMap traceReadBit) rfl, sampledLevels_readBits]
    exact ⟨vs, hlen, rfl, congrArg (vs.foldl shiftIn) hshreg, rfl⟩

/-- Settles O47: each sample stands as many places from the right as samples came after it. -/
theorem samplesAccumulateFromTheTop : Obligations.SamplesAccumulateFromTheTop := by
  intro s bits hshreg hle
  obtain ⟨vs, hlen, hres, hbyte, hsampled⟩ := foldl_rdbBit_samples bits hshreg
  dsimp only
  rw [← hlen] at hle ⊢
  rw [hsampled, hres, hbyte]
  exact ⟨rfl, rfl, fun k hk => foldl_shiftIn_getLsbD vs _ hk hle, fun j => foldl_shiftIn_getLsbD_above vs⟩

/-! ## Bytes and acknowledges on the bus -/

/-- Settles O45: SDA changes only while SCL is LOW, but for the RDB that releases both lines from `(LOW, HIGH)`. -/
theorem bytesAndAcknowledgesMakeNoCondition : Obligations.BytesAndAcknowledgesMakeNoCondition := by
  intro i s hready hi
  refine ⟨_, exec_ready i s hready, ?_⟩
  rw [(operationTrace_newEvents i s _).conditions_eq]
  refine ⟨?_, fun hnot => ?_⟩
  · rintro rfl hflag hlines
    exact if_pos ⟨hflag, hlines⟩
  · obtain ⟨d, rfl⟩ | ⟨level, hcore⟩ | rfl | rfl := hi
    · rfl
    · cases i <;> cases hcore <;> rfl
    · rfl
    · exact if_neg fun h => hnot ⟨rfl, h⟩

/-- Settles O48: WRB's clock pulses carry `dataBits`, and these are then the RDB's eight answers. -/
theorem loopbackReturnsTheByteWritten : Obligations.LoopbackReturnsTheByteWritten := by
  intro s v rest hready
  obtain ⟨t, hexec, hdone, -⟩ := exec_completes (.wrb v) s hready
  obtain ⟨t', hexec', hevents⟩ := exec_wrb_newEvents s v hready
  cases hexec.symm.trans hexec'
  refine ⟨t, _, hexec, exec_rdb_scripted (vs := dataBits v) (rest := rest) hdone rfl ?_, byteOf_dataBits v⟩
  rw [hevents, clockRises_traceWrb]

end Sys2Proof.Machine
end

section
/-! PROOF. The acknowledge bit: what WACKL, its two spellings and RACK do in full (44_ack.md R140 to R144). -/

namespace Sys2Proof.Machine

/-! ## WACKL and its spellings -/

/-- A format L word is its opcode's pattern with the level in bit 0 (30_encoding.md R64). -/
theorem encode_wackl_eq (level : Level) :
    encode (.wackl level) = 0x60000000#32 ||| (BitVec.ofBool level).setWidth 32 := rfl

/-- From a ready state WACKL is acceptance, the steps K0 to K4, and completion. -/
theorem exec_wackl_ready {s : State} (level : Level) (hready : s.busy = false) :
    exec (.wackl level) s = .next ((wacklSteps (s.acceptWackl level)).complete 0x00#8) :=
  State.whenReady_ready s (fun s => (wacklSteps (s.acceptWackl level)).complete 0x00#8) hready

/-- Settles O21: acceptance latches the level and clears the flag, the steps K0 to K4 do the rest. -/
theorem wacklResult : Obligations.WacklResult := by
  intro s level hready
  refine ⟨encode_wackl_eq level, ?_⟩
  rw [exec_wackl_ready level hready, wacklSteps_eq]
  simp [State.complete, State.lines, hready, opWACKL]

/-- A spelling has the effect of the operation it stands for (30_encoding.md R71). -/
theorem exec_core (i : Instr) : exec i.core = exec i := by
  cases i <;> rfl

/-- Settles O22: WACK and WNACK have the words and the effect of WACKL, whose next state O21 gives. -/
theorem acknowledgeSpellingsAgree : Obligations.AcknowledgeSpellingsAgree := by
  obtain ⟨-, hwack⟩ := Laws.OpcodeField.wack
  obtain ⟨-, hwnack⟩ := Laws.OpcodeField.wnack
  refine ⟨hwack.symm, hwnack.symm, fun s hready => ⟨?_, ?_⟩⟩
  · rw [← exec_core .wack]
    obtain ⟨-, hexec⟩ := wacklResult s ACK hready
    exact ⟨_, hexec, hexec, hready, rfl, rfl⟩
  · rw [← exec_core .wnack]
    obtain ⟨-, hexec⟩ := wacklResult s NACK hready
    exact ⟨_, hexec, hexec, hready, rfl, rfl⟩

/-! ## RACK -/

/-- From a ready state RACK is acceptance, the steps A0 to A3, and completion with the level held in `smp`. -/
theorem exec_rack_ready {s : State} (hready : s.busy = false) :
    exec .rack s =
      .next ((rackSteps (s.acceptPlain opRACK .A0)).complete (zext8 (rackSteps (s.acceptPlain opRACK .A0)).smp)) :=
  State.whenReady_ready s (fun s => (rackSteps (s.acceptPlain opRACK .A0)).complete
    (zext8 (rackSteps (s.acceptPlain opRACK .A0)).smp)) hready

/-- A level zero-extended is the byte 0 or the byte 1 (40_sequencer.md R90 (e)). -/
theorem zext8_eq_ite (level : Level) : zext8 level = if level then 0x01#8 else 0x00#8 := by
  cases level <;> rfl

/-- Settles O23: acceptance clears the flag, the step As takes the environment's answer since SDA is released, and the
completion returns it. -/
theorem rackResult : Obligations.RackResult := by
  refine ⟨rfl, fun s hready => ?_⟩
  rw [exec_rack_ready hready, rackSteps_eq]
  simp [State.complete, State.lines, zext8_eq_ite, hready, opRACK]

end Sys2Proof.Machine
end

section
/-! PROOF. The clock-stretch probe: what RDS does in full, a second RDS, and the RDB after an RDS (45_stretch.md R150 to
R154). -/

namespace Sys2Proof.Machine

/-! ## RDS in full -/

/-- The level that an RDS issued in `s` samples: the environment's answer after the drive step and the wait, since SCL
is released (45_stretch.md R150). -/
def State.probedLevel (s : State) : Level :=
  s.envScript.head?.getD (Config.freeEnv s.runNo .scl (s.trace ++ [.drive s.lastSda HIGH, .wait]))

/-- The state in which an RDS issued in `s` completes when its sample returned the level `c` (45_stretch.md R150). -/
def State.afterRds (s : State) (c : Level) : State :=
  { s with
    stretchPending := true, lastScl := HIGH, res := zext8 c, op := opRDS, step := .fin, smp := c,
    dly := 0#12, presc := Config.clkPerUs - 1, rspValid := true, odCfg := false,
    envScript := s.envScript.tail, trace := s.trace ++ traceRds s.lines c }

/-- From a ready state RDS is acceptance, the steps T1 and Ts, and completion with the level held in `smp`. -/
theorem exec_rds_ready {s : State} (hready : s.busy = false) :
    exec .rds s = .next ((rdsSteps s.acceptRds).complete (zext8 (rdsSteps s.acceptRds).smp)) :=
  State.whenReady_ready s (fun s => (rdsSteps s.acceptRds).complete (zext8 (rdsSteps s.acceptRds).smp)) hready

/-- From a ready state RDS completes with the level of SCL. -/
theorem exec_rds_eq_afterRds {s : State} (hready : s.busy = false) :
    exec .rds s = .next (s.afterRds s.probedLevel) := by
  rw [exec_rds_ready hready, rdsSteps_eq]
  simp [State.complete, State.afterRds, State.probedLevel, State.lines, hready]

theorem newEvents_afterRds (s : State) (c : Level) : newEvents s (s.afterRds c) = traceRds s.lines c :=
  newEvents_of_append _ _ _ rfl

/-- Settles O24: acceptance leaves the flag alone, the step Ts takes the environment's answer since SCL is released and
sets the flag, and the completion returns the answer. -/
theorem rdsResult : Obligations.RdsResult := by
  refine ⟨rfl, fun s hready => ?_⟩
  rw [exec_rds_eq_afterRds hready, State.afterRds, zext8_eq_ite]
  rfl

/-! ## RDS after RDS -/

/-- With SCL released already, the probe's drive step repeats the standing levels (45_stretch.md R152). -/
theorem wireTrace_traceRds_released (sda v : Level) :
    wireTrace (sda, HIGH) (traceRds (sda, HIGH) v) = [.sampleScl v] := by
  simp [traceRds, wireTrace]

/-- Settles O58: the first RDS leaves SDA as it was and SCL released, so the second moves no line. -/
theorem repeatedProbesMoveNoLine : Obligations.RepeatedProbesMoveNoLine := by
  intro s hready
  let t := s.afterRds s.probedLevel
  have hsecond : exec .rds t = .next (t.afterRds t.probedLevel) := exec_rds_eq_afterRds hready
  refine ⟨t, exec_rds_eq_afterRds hready, rfl, t.afterRds t.probedLevel, t.probedLevel, hsecond, ?_, ?_, rfl, rfl⟩
  · exact newEvents_afterRds t t.probedLevel
  · rw [newEvents_afterRds]
    exact wireTrace_traceRds_released s.lastSda t.probedLevel

/-! ## RDB after RDS -/

/-- RDS begins a clock pulse if SCL was LOW. -/
theorem clockRises_traceRds (l : Lines) (v : Level) : clockRises l (traceRds l v) = if l.2 then [] else [l.1] := by
  obtain ⟨sda, scl⟩ := l
  cases scl <;> rfl

/-- Each group of a read bit that finds SCL LOW begins one clock pulse, with SDA released. -/
theorem clockRises_readBits (vs : List Level) :
    clockRises (HIGH, LOW) (vs.flatMap traceReadBit) = List.replicate vs.length HIGH := by
  induction vs with
  | nil => rfl
  | cons v vs ih => simp [traceReadBit, clockRises, ih, List.replicate_succ]

/-- RDB after an RDS: the first group finds its clock pulse begun (45_stretch.md R153). -/
theorem clockRises_readBits_released (sda v : Level) (vs : List Level) :
    clockRises (sda, HIGH) ((v :: vs).flatMap traceReadBit) = List.replicate vs.length HIGH := by
  simp [traceReadBit, clockRises, clockRises_readBits]

/-- Settles O49: RDS makes the first of the eight rises, and the RDB after it, without its leading steps, begins with a
group that finds SCL HIGH. -/
theorem probeOpensTheFirstClockPulse : Obligations.ProbeOpensTheFirstClockPulse := by
  intro s hready hlines
  let t := s.afterRds s.probedLevel
  have htlines : t.lines = (s.lastSda, HIGH) := rfl
  obtain ⟨vs, hlen, -, hexec⟩ := exec_rdb_eq_afterRdb (s := t) hready
  have hevents : newEvents t (t.afterRdb vs) = vs.flatMap traceReadBit := newEvents_of_append _ _ _ rfl
  refine ⟨t, t.afterRdb vs, exec_rds_eq_afterRds hready, hexec, ?_, ?_⟩
  · rw [newEvents_afterRds, clockRises_traceRds, hlines]
    rfl
  · rw [hevents, htlines]
    cases vs with
    | nil => cases hlen
    | cons v vs =>
      rw [clockRises_readBits_released, List.length_replicate]
      exact ⟨Nat.succ.inj hlen, rfl, rfl, rfl⟩

/-- Settles O50: the two commands are an instance of the grammar's one exception, the RDB that closes an RDS directly
after a START. -/
theorem probeRightAfterStartEndsInAStop : Obligations.ProbeRightAfterStartEndsInAStop := by
  refine ⟨⟨rfl, rfl⟩, fun s hready hfits => ?_⟩
  obtain ⟨hformula, -⟩ := grammarMakesOnlyOwnConditions
  obtain ⟨t, hrds, hfits', -, hown⟩ := hformula .started .probedLow .rds s hready hfits rfl
  obtain ⟨t', hrds', hready', -⟩ := exec_completes .rds s hready
  cases hrds.symm.trans hrds'
  obtain ⟨u, hrdb, -, hstop, -⟩ := hformula .probedLow .read .rdb t hready' hfits' rfl
  exact ⟨t, u, hrds, hrdb, hown (by simp), hstop rfl rfl⟩

end Sys2Proof.Machine
end

section
/-! PROOF. What 60_exceptions.md says of acknowledges, the completion cycle and waits: a NACK is a result like an ACK
(R163), the completion cycle takes a command (R166 (c)), a wait has an exact length (R170) and no effect beyond it
(R171). -/

namespace Sys2Proof.Machine

/-! ## An acknowledge is a result -/

/-- Settles O30: both next states are RACK's of O23, with the level that the script gives. -/
theorem nackLeavesTheStateOfAnAck : Obligations.NackLeavesTheStateOfAnAck := by
  intro s rest hready
  obtain ⟨-, hrack⟩ := rackResult
  have hack := hrack { s with envScript := ACK :: rest } hready
  have hnack := hrack { s with envScript := NACK :: rest } hready
  refine ⟨_, _, hack, hnack, rfl, rfl, rfl, ?_⟩
  rw [List.map_append, List.map_append]
  rfl

/-! ## The completion cycle -/

@[simp] theorem State.acceptInstr_res (s : State) (i : Instr) : (s.acceptInstr i).res = s.res := by
  cases i <;> rfl

@[simp] theorem State.acceptInstr_rspValid (s : State) (i : Instr) : (s.acceptInstr i).rspValid = false := by
  cases i <;> rfl

/-- Settles O55: the edge is an accepting edge like any other, and acceptance ends the pulse and leaves `res` alone. -/
theorem completionCycleAcceptsTheNextCommand : Obligations.CompletionCycleAcceptsTheNextCommand := by
  intro s w i hready _ hdec t
  have ht : t = s.idle.acceptInstr i := State.edge_accept hready hdec
  have haccept := acceptInstr_frame i s.idle
  rw [ht]
  exact ⟨haccept.busy, haccept.op, State.acceptInstr_rspValid _ i, State.acceptInstr_res _ i, haccept.lines,
    haccept.trace⟩

/-! ## The length of a wait -/

theorem State.countEdge_idle (clk : Nat) (s : State) : s.idle.countEdge clk = (s.countEdge clk).idle := by
  simp only [State.countEdge, apply_ite State.idle, ← State.advance_idle]
  rfl

/-- An edge of a wait leaves both pulses at 0. -/
theorem State.busyEdge_waiting (clk : Nat) {s : State} (hd : s.dly ≠ 0#12) :
    s.busyEdge clk = (s.busyEdge clk).idle := by
  have hcount : s.busyEdge clk = s.idle.countEdge clk := if_neg hd
  rw [hcount, State.countEdge_idle]
  rfl

/-- `Reaches` leaves the two pulses open; when the last edge is one of a wait they are 0. -/
theorem Reaches.busyEdges_eq {clk n : Nat} {s t : State} (h : Reaches clk (n + 1) s t)
    (hd : (State.busyEdges clk n s).dly ≠ 0#12) : State.busyEdges clk (n + 1) s = t.idle := by
  rw [← h, busyEdges_add]
  exact State.busyEdge_waiting clk hd

section
variable {clk : Nat} {s : State}

/-- A wait with `d` microseconds and `p` cycles left is not over before its last edge, the one after
`(d - 1) × clk + p` edges. -/
theorem Reaches.withinWait {n p : Nat} {d : HalfCycle} (hd : d ≠ 0#12) (hn : n ≤ (d.toNat - 1) * clk + p) :
    ∃ d' p', d' ≠ 0#12 ∧ Reaches clk n (s.counting d p) (s.counting d' p') := by
  induction n generalizing d p with
  | zero => exact ⟨d, p, hd, .refl clk _⟩
  | succ n ih =>
    rw [Nat.add_comm n 1]
    cases p with
    | succ p =>
      obtain ⟨d', p', hd', hrest⟩ := ih hd (p := p) (by omega)
      exact ⟨d', p', hd', (Reaches.cycle clk s p hd).trans hrest⟩
    | zero =>
      cases hk : d.toNat - 1 with
      | zero => simp [hk] at hn
      | succ k =>
        have hnext : d - 1#12 ≠ 0#12 := by bv_omega
        have hpred : (d - 1#12).toNat - 1 = k := by bv_omega
        rw [hk, Nat.succ_mul] at hn
        obtain ⟨d', p', hd', hrest⟩ := ih hnext (p := clk - 1) (by rw [hpred]; omega)
        exact ⟨d', p', hd', (Reaches.nextMicrosecond clk s hd hnext).trans hrest⟩

variable (hhc : s.halfCycleUs ≠ 0#12)
include hhc

/-- A started wait lasts `half_cycle_us × CLK_PER_US` edges at least. -/
theorem Reaches.withinStartedWait {n : Nat} (hn : n < s.halfCycleUs.toNat * clk) :
    ∃ d p, d ≠ 0#12 ∧ Reaches clk n (s.startWait clk) ((s.startWait clk).counting d p) := by
  refine Reaches.withinWait (s := s.startWait clk) (p := clk - 1) hhc ?_
  obtain ⟨k, hk⟩ : ∃ k, s.halfCycleUs.toNat = k + 1 := Nat.exists_eq_succ_of_ne_zero (by bv_omega)
  rw [hk, Nat.succ_mul] at hn
  rw [hk, Nat.add_sub_cancel]
  omega

/-- Before its last edge a started wait goes on. -/
theorem State.busyEdges_startWait_dly {n : Nat} (hn : n < s.halfCycleUs.toNat * clk) :
    (State.busyEdges clk n (s.startWait clk)).dly ≠ 0#12 := by
  obtain ⟨d, p, hd, hreach⟩ := Reaches.withinStartedWait hhc hn
  have hdly : (State.busyEdges clk n (s.startWait clk)).dly = d := congrArg State.dly hreach
  rwa [hdly]

/-- What is reached at an edge of a started wait, its last one included, is reached with both pulses at 0. -/
theorem Reaches.busyEdges_startWait_eq {n : Nat} {t : State} (h : Reaches clk n (s.startWait clk) t) (hpos : 0 < n)
    (hn : n ≤ s.halfCycleUs.toNat * clk) : State.busyEdges clk n (s.startWait clk) = t.idle := by
  obtain ⟨m, rfl⟩ := Nat.exists_eq_succ_of_ne_zero hpos.ne'
  exact h.busyEdges_eq (State.busyEdges_startWait_dly hhc hn)

end

/-- Settles O53: until its last edge only the counter moves; at the last edge the counter is 0 and the position moves
on. -/
theorem waitLastsHalfCycleTimesClock : Obligations.WaitLastsHalfCycleTimesClock := by
  intro clk s hclk _ hhc
  refine ⟨fun n hpos hn => ?_, ?_⟩
  · obtain ⟨d, p, hd, hreach⟩ := Reaches.withinStartedWait hhc hn
    exact ⟨d, p, hd, hreach.busyEdges_startWait_eq hhc hpos hn.le⟩
  · have hlength : 0 < s.halfCycleUs.toNat * clk := Nat.mul_pos (by bv_omega) hclk
    have hend := Reaches.elapse clk (s.startWait clk) hclk hhc
    exact (hend.busyEdges_startWait_eq hhc hlength le_rfl).trans (State.advance_idle _).symm

/-! ## Timing only -/

/-- `s` with another half-cycle. -/
def State.withHalfCycle (h : HalfCycle) (s : State) : State := { s with halfCycleUs := h }

section
variable (h : HalfCycle) (s : State)

theorem rdbLead_withHalfCycle : rdbLead (s.withHalfCycle h) = (rdbLead s).withHalfCycle h := by
  rw [rdbLead, rdbLead, apply_ite (State.withHalfCycle h)]
  rfl

/-- A whole wait leaves no trace of its length, so no steps do. -/
theorem operationSteps_withHalfCycle (i : Instr) :
    operationSteps i (s.withHalfCycle h) = (operationSteps i s).withHalfCycle h := by
  cases i with
  | wrb data =>
    simp only [operationSteps, wrbSteps_eq]
    rfl
  | rdb =>
    simp only [operationSteps, rdbSteps, rdbLead_withHalfCycle]
    exact List.foldl_hom (State.withHalfCycle h) fun _ _ => rfl
  | _ => rfl

theorem afterSteps_withHalfCycle {i : Instr} (hi : ∀ sda scl hc, i ≠ .begin sda scl hc) :
    (s.withHalfCycle h).afterSteps i = (s.afterSteps i).withHalfCycle h := by
  have haccept : (s.withHalfCycle h).acceptInstr i = (s.acceptInstr i).withHalfCycle h := by
    cases i with
    | begin sda scl hc => exact absurd rfl (hi sda scl hc)
    | _ => rfl
  rw [State.afterSteps, haccept, operationSteps_withHalfCycle, State.afterSteps]

/-- Two BEGINs that differ in their half-cycle only differ after their steps in that register only. -/
theorem afterSteps_begin_withHalfCycle (sda scl : Byte) (hc : HalfCycle) :
    s.afterSteps (.begin sda scl h) = (s.afterSteps (.begin sda scl hc)).withHalfCycle h := by
  have haccept : s.acceptInstr (.begin sda scl h) = (s.acceptInstr (.begin sda scl hc)).withHalfCycle h := rfl
  rw [State.afterSteps, haccept]
  exact operationSteps_withHalfCycle h _ (.begin sda scl hc)

end

/-- Settles O31: acceptance, the steps and completion commute with a change of the half-cycle, and BEGIN's acceptance
makes such a change. -/
theorem halfCycleIsOnlyTiming : Obligations.HalfCycleIsOnlyTiming := by
  refine ⟨fun i s h hready hi => ⟨_, exec_ready i s hready, ?_⟩, fun s sda scl hc h hready =>
    ⟨_, exec_ready _ s hready, ?_⟩⟩
  · rw [← State.withHalfCycle, exec_ready i (s.withHalfCycle h) hready, afterSteps_withHalfCycle h s hi]
    rfl
  · rw [exec_ready _ s hready, afterSteps_begin_withHalfCycle h s sda scl hc]
    rfl

end Sys2Proof.Machine
end

section
/-! PROOF. Reset (70_reset_and_hazards.md R180 to R184), and the configuration that the first BEGIN after it gives and
every later step keeps (R185, 93_implementation_defined.md U2, U3). -/

namespace Sys2Proof.Machine

/-! ## Configuration -/

/-- Before the first BEGIN the model refuses every other command. -/
theorem State.refuses_before_begin {s : State} {i : Instr} (hconf : s.configured = false)
    (hi : ∀ sda scl hc, i ≠ .begin sda scl hc) : s.refuses i = some (.beforeBegin i) := by
  cases i with
  | begin sda scl hc => exact absurd rfl (hi sda scl hc)
  | _ => simp [State.refuses, Instr.wellFormed, mayComeFirst, hconf]

/-- The contract for a command other than BEGIN is a configured block. -/
theorem State.inContract_eq_configured {i : Instr} (hi : ∀ sda scl hc, i ≠ .begin sda scl hc) (s : State) :
    s.inContract i = s.configured := by
  cases i with
  | begin sda scl hc => exact absurd rfl (hi sda scl hc)
  | _ => rfl

/-- A BEGIN configures the block with its own half-cycle; every other operation keeps the configuration. -/
theorem exec_configuration_cases (i : Instr) {s : State} (hready : s.busy = false) :
    ∃ t, exec i s = .next t ∧
      ((∃ sda scl hc, i = .begin sda scl hc ∧ t.configured = true ∧ t.halfCycleUs = hc) ∨
       ((∀ sda scl hc, i ≠ .begin sda scl hc) ∧ t.configured = s.configured ∧ t.halfCycleUs = s.halfCycleUs)) := by
  have hsteps := operationSteps_frame i (s.acceptInstr i)
  refine ⟨_, exec_ready i s hready, ?_⟩
  by_cases hi : ∀ sda scl hc, i ≠ .begin sda scl hc
  · exact .inr ⟨hi, hsteps.configured.trans ((acceptInstr_frame i s).configured hi),
      hsteps.halfCycleUs.trans (acceptInstr_halfCycleUs hi s)⟩
  · push Not at hi
    obtain ⟨sda, scl, hc, rfl⟩ := hi
    exact .inl ⟨sda, scl, hc, rfl, hsteps.configured, hsteps.halfCycleUs⟩

/-- A step that goes on keeps the configuration or, as a BEGIN that is not refused, gives one whose waits have a
length. -/
theorem step_configuration_cases {s t : State} (hstep : step s = .next t) :
    (t.configured = s.configured ∧ t.halfCycleUs = s.halfCycleUs) ∨
    (t.configured = true ∧ t.halfCycleUs ≠ 0#12) := by
  obtain ⟨-, e⟩ | ⟨-, -, e⟩ | ⟨w, rest, i, hready, -, -, href, e⟩ | ⟨w, rest, i, r, -, -, -, -, e⟩ |
    ⟨w, rest, r, -, -, -, e⟩ := step_cases s <;> rw [e] at hstep
  · cases hstep
    obtain ⟨-, -, hhc, hconf, -⟩ := s.busyEdge_frame Config.clkPerUs
    exact .inl ⟨hconf, hhc⟩
  · cases hstep
    exact .inl ⟨rfl, rfl⟩
  · obtain ⟨hwf, -⟩ := (s.refuses_eq_none_iff i).mp href
    obtain ⟨u, hexec, hu⟩ := exec_configuration_cases i (s := { s with cmds := rest }) hready
    cases hexec.symm.trans hstep
    obtain ⟨sda, scl, hc, rfl, hconf, hhc⟩ | ⟨-, hkept⟩ := hu
    · exact .inr ⟨hconf, by simpa [Instr.wellFormed, hhc] using hwf⟩
    · exact .inl hkept
  · cases hstep
  · cases hstep

/-- Settles O34: reset clears the predicate, a BEGIN with `hc ≥ 1` alone sets it, and nothing else changes it or the
half-cycle. -/
theorem contractKeepsTheBlockConfigured : Obligations.ContractKeepsTheBlockConfigured := by
  refine ⟨⟨rfl, fun s => s.applyReset_configured⟩, fun s w rest i hready hconf hcmds hdec hi =>
    step_refuses hready hcmds hdec (State.refuses_before_begin hconf hi), fun i s hready hwaits hcontract => ?_,
    fun s t hstep => ?_⟩
  · obtain ⟨t, hexec, ⟨sda, scl, hc, rfl, hconf, hhc⟩ | ⟨hi, hconf, hhc⟩⟩ := exec_configuration_cases i hready
    · obtain ⟨hne, -⟩ : hc ≠ 0#12 ∧ sda ≠ scl := by simpa [State.inContract] using hcontract
      exact ⟨t, hexec, hconf, hhc ▸ hne⟩
    · rw [State.inContract_eq_configured hi] at hcontract
      exact ⟨t, hexec, hconf.trans hcontract, hhc ▸ hwaits hcontract⟩
  · obtain ⟨hconf, hhc⟩ | ⟨hconf, hhc⟩ := step_configuration_cases hstep
    · simp only [State.ConfiguredWaits, hconf, hhc]
      exact ⟨id, id, id⟩
    · exact ⟨fun _ => hconf, fun _ => hhc, fun _ _ => hhc⟩

/-! ## Reset -/

/-- The reset state with given host's words, script and run number, the fields that are no part of the block
(assumption 14). -/
def State.resetWith (cmds : List CmdWord) (envScript : List Level) (runNo : Nat) : State :=
  { State.reset with cmds := cmds, envScript := envScript, runNo := runNo }

theorem State.resetLow_eq_resetWith (s : State) :
    s.stimulus .resetLow = .resetWith s.cmds s.envScript (s.runNo + 1) := rfl

/-- Settles O1: each of the five states is the reset state with some words, script and run number. -/
theorem resetGivesTheSpecifiedValues : Obligations.ResetGivesTheSpecifiedValues := by
  intro s inp hrst t ht
  have hreset : ∃ cmds envScript runNo, t = .resetWith cmds envScript runNo := by
    have hedge (u : State) := (u.edge_resetLow inp hrst).trans u.resetLow_eq_resetWith
    simp only [hedge, State.resetLow_eq_resetWith, List.mem_cons, List.not_mem_nil, or_false] at ht
    obtain h | h | h | h | h := ht <;> exact ⟨_, _, _, h⟩
  obtain ⟨cmds, envScript, runNo, rfl⟩ := hreset
  exact ⟨rfl, rfl, rfl, rfl, rfl, rfl, rfl, rfl, rfl, rfl, rfl, rfl, rfl⟩

/-- Settles O2: a reset reads no register of the block, and the edge after it is an accepting edge. -/
theorem nothingSurvivesReset : Obligations.NothingSurvivesReset := by
  refine ⟨fun s s' inp inp' hrst hrst' hcmds hscript hrun => ?_, ?_⟩
  · have hsame : s.stimulus .resetLow = s'.stimulus .resetLow := by
      rw [State.resetLow_eq_resetWith, hcmds, hscript, hrun, State.resetLow_eq_resetWith]
    rw [s.edge_resetLow inp hrst, s'.edge_resetLow inp' hrst']
    exact ⟨hsame, hsame⟩
  · intro s w i hdec t
    have ht : t = (s.stimulus .resetLow).idle.acceptInstr i := State.edge_accept rfl hdec
    have haccept := acceptInstr_frame i (s.stimulus .resetLow).idle
    rw [ht]
    exact ⟨haccept.busy, haccept.op, haccept.lines, haccept.trace⟩

/-- Settles O38: the flag is clear, so nothing is claimed of what set it. -/
theorem resetIsQuiet : Obligations.ResetIsQuiet :=
  ⟨rfl, rfl, fun hflag => absurd hflag Bool.false_ne_true⟩

end Sys2Proof.Machine
end
